-- ==== Sys2Proof/Word.lean ====
section
/-! DEFINITION. The two word types of the machine (`00_scope.md` R4, R6): bytes and 16-bit words.
Bit 0 is the least significant bit; `v.getLsbD i` is the spec's `v[i]`. -/

namespace Sys2Proof

/-- An unsigned 8-bit value, `u8` of R6. -/
abbrev Byte := BitVec 8

/-- An unsigned 16-bit value, `u16` of R6: a register pair, `SP`, `PC`, a bus address. -/
abbrev Word := BitVec 16

end Sys2Proof
end

