-- ==== Sys2Proof/Machine/Bits.lean ====
section
/-! DEFINITION. Byte order, sign extension and bit helpers (R6, R80), used by the decoder and the machine. -/

namespace Sys2Proof

/-- `hi ++ lo` (R6): `hi` in bits 15:8. -/
def word (hi lo : Byte) : Word := hi ++ lo

/-- `w[15:8]`. -/
def hiByte (w : Word) : Byte := w.extractLsb' 8 8

/-- `w[7:0]`. -/
def loByte (w : Word) : Byte := w.extractLsb' 0 8

/-- `sext_16(e)` (R6): 16-bit two's complement sign extension of a byte. -/
def sext16 (e : Byte) : Word := e.signExtend 16

/-- The high-page address `0xFF00 + o` (R94, R126, R128). -/
def highPage (o : Byte) : Word := word 0xFF#8 o

/-- A one-bit carry as a number. -/
def carryIn (b : Bool) : Nat := if b then 1 else 0

/-- The per-bit carry chain `a ^ b ^ r` between operands and exact result (R6). -/
def chain (a b r : Nat) : Nat := a ^^^ b ^^^ r

end Sys2Proof
end

