-- ==== Sys2Proof/Syntax.lean ====
section
/-! DEFINITION. The instructions (`30_encoding.md` R91 to R105): the operand tables of R93 and ONE inductive with a
constructor for each row of `opcode_table.json`: first the rows with operand bytes, then the others, each in the table's
order. An `M` in a name is a memory operand (`ldB_MHL` is
`LD B,(HL)`); the constructor's arguments are its operand bytes. -/

namespace Sys2Proof

/-- The 8-bit registers an operand field names (R7, R93; index 6 is the byte at `HL`). -/
inductive Reg where
  | b | c | d | e | h | l | a
  deriving DecidableEq, Repr

/-- `r[z]` of the secondary page (R93, R204): a register, or the byte at address `HL`. -/
inductive Operand8 where
  | reg (r : Reg)
  | mem
  deriving DecidableEq, Repr

/-- Where an 8-bit source operand comes from (R156): a register, the byte at `HL`, or an immediate. -/
inductive Source8 where
  | reg (r : Reg)
  | mem
  | imm (d : Byte)
  deriving DecidableEq, Repr

/-- The pairs `rr[p]` (R93). -/
inductive Pair where
  | bc | de | hl | sp
  deriving DecidableEq, Repr

/-- The stack pairs `rs[p]` (R93). -/
inductive StackPair where
  | bc | de | hl | af
  deriving DecidableEq, Repr

/-- The conditions `cc[c]` (R93). -/
inductive Cond where
  | nz | z | nc | c
  deriving DecidableEq, Repr

/-- The accumulator operations `alu[y]` (R93). -/
inductive AluOp where
  | add | adc | sub | sbc | and | xor | or | cp
  deriving DecidableEq, Repr

/-- The rotates and shifts `rot[y]` (R93). -/
inductive RotOp where
  | rlc | rrc | rl | rr | sla | sra | swap | srl
  deriving DecidableEq, Repr

/-- A bit number, or the `y` of an `RST` (R92). -/
inductive BitNo where
  | n0 | n1 | n2 | n3 | n4 | n5 | n6 | n7
  deriving DecidableEq, Repr

/-- The number `y`. -/
def BitNo.toNat : BitNo → Nat
  | .n0 => 0 | .n1 => 1 | .n2 => 2 | .n3 => 3 | .n4 => 4 | .n5 => 5 | .n6 => 6 | .n7 => 7

/-- One instruction: a row of `opcode_table.json` with its operand bytes. -/
inductive Instr where
  | ldBC_d16 (v : Word)
  | ldB_d8 (d : Byte)
  | ldMa16_SP (addr : Word)
  | ldC_d8 (d : Byte)
  | ldDE_d16 (v : Word)
  | ldD_d8 (d : Byte)
  | jr_e8 (e : Byte)
  | ldE_d8 (d : Byte)
  | jrNZ_e8 (e : Byte)
  | ldHL_d16 (v : Word)
  | ldH_d8 (d : Byte)
  | jrZ_e8 (e : Byte)
  | ldL_d8 (d : Byte)
  | jrNC_e8 (e : Byte)
  | ldSP_d16 (v : Word)
  | ldMHL_d8 (d : Byte)
  | jrC_e8 (e : Byte)
  | ldA_d8 (d : Byte)
  | jpNZ_a16 (addr : Word)
  | jp_a16 (addr : Word)
  | callNZ_a16 (addr : Word)
  | addA_d8 (d : Byte)
  | jpZ_a16 (addr : Word)
  | prefixCB (op2 : Byte)
  | callZ_a16 (addr : Word)
  | call_a16 (addr : Word)
  | adcA_d8 (d : Byte)
  | jpNC_a16 (addr : Word)
  | callNC_a16 (addr : Word)
  | subA_d8 (d : Byte)
  | jpC_a16 (addr : Word)
  | callC_a16 (addr : Word)
  | sbcA_d8 (d : Byte)
  | ldhMa8_A (o : Byte)
  | andA_d8 (d : Byte)
  | addSP_e8 (e : Byte)
  | ldMa16_A (addr : Word)
  | xorA_d8 (d : Byte)
  | ldhA_Ma8 (o : Byte)
  | orA_d8 (d : Byte)
  | ldHL_SPe8 (e : Byte)
  | ldA_Ma16 (addr : Word)
  | cpA_d8 (d : Byte)
  | nop
  | ldMBC_A
  | incBC
  | incB
  | decB
  | rlca
  | addHL_BC
  | ldA_MBC
  | decBC
  | incC
  | decC
  | rrca
  | stop
  | ldMDE_A
  | incDE
  | incD
  | decD
  | rla
  | addHL_DE
  | ldA_MDE
  | decDE
  | incE
  | decE
  | rra
  | ldMHLInc_A
  | incHL
  | incH
  | decH
  | daa
  | addHL_HL
  | ldA_MHLInc
  | decHL
  | incL
  | decL
  | cpl
  | ldMHLDec_A
  | incSP
  | incMHL
  | decMHL
  | scf
  | addHL_SP
  | ldA_MHLDec
  | decSP
  | incA
  | decA
  | ccf
  | ldB_B
  | ldB_C
  | ldB_D
  | ldB_E
  | ldB_H
  | ldB_L
  | ldB_MHL
  | ldB_A
  | ldC_B
  | ldC_C
  | ldC_D
  | ldC_E
  | ldC_H
  | ldC_L
  | ldC_MHL
  | ldC_A
  | ldD_B
  | ldD_C
  | ldD_D
  | ldD_E
  | ldD_H
  | ldD_L
  | ldD_MHL
  | ldD_A
  | ldE_B
  | ldE_C
  | ldE_D
  | ldE_E
  | ldE_H
  | ldE_L
  | ldE_MHL
  | ldE_A
  | ldH_B
  | ldH_C
  | ldH_D
  | ldH_E
  | ldH_H
  | ldH_L
  | ldH_MHL
  | ldH_A
  | ldL_B
  | ldL_C
  | ldL_D
  | ldL_E
  | ldL_H
  | ldL_L
  | ldL_MHL
  | ldL_A
  | ldMHL_B
  | ldMHL_C
  | ldMHL_D
  | ldMHL_E
  | ldMHL_H
  | ldMHL_L
  | halt
  | ldMHL_A
  | ldA_B
  | ldA_C
  | ldA_D
  | ldA_E
  | ldA_H
  | ldA_L
  | ldA_MHL
  | ldA_A
  | addA_B
  | addA_C
  | addA_D
  | addA_E
  | addA_H
  | addA_L
  | addA_MHL
  | addA_A
  | adcA_B
  | adcA_C
  | adcA_D
  | adcA_E
  | adcA_H
  | adcA_L
  | adcA_MHL
  | adcA_A
  | subA_B
  | subA_C
  | subA_D
  | subA_E
  | subA_H
  | subA_L
  | subA_MHL
  | subA_A
  | sbcA_B
  | sbcA_C
  | sbcA_D
  | sbcA_E
  | sbcA_H
  | sbcA_L
  | sbcA_MHL
  | sbcA_A
  | andA_B
  | andA_C
  | andA_D
  | andA_E
  | andA_H
  | andA_L
  | andA_MHL
  | andA_A
  | xorA_B
  | xorA_C
  | xorA_D
  | xorA_E
  | xorA_H
  | xorA_L
  | xorA_MHL
  | xorA_A
  | orA_B
  | orA_C
  | orA_D
  | orA_E
  | orA_H
  | orA_L
  | orA_MHL
  | orA_A
  | cpA_B
  | cpA_C
  | cpA_D
  | cpA_E
  | cpA_H
  | cpA_L
  | cpA_MHL
  | cpA_A
  | retNZ
  | popBC
  | pushBC
  | rst00
  | retZ
  | ret
  | rst08
  | retNC
  | popDE
  | undefinedD3
  | pushDE
  | rst10
  | retC
  | reti
  | undefinedDB
  | undefinedDD
  | rst18
  | popHL
  | ldMC_A
  | undefinedE3
  | undefinedE4
  | pushHL
  | rst20
  | jpHL
  | undefinedEB
  | undefinedEC
  | undefinedED
  | rst28
  | popAF
  | ldA_MC
  | di
  | undefinedF4
  | pushAF
  | rst30
  | ldSP_HL
  | ei
  | undefinedFC
  | undefinedFD
  | rst38
  | rlcB
  | rlcC
  | rlcD
  | rlcE
  | rlcH
  | rlcL
  | rlcMHL
  | rlcA
  | rrcB
  | rrcC
  | rrcD
  | rrcE
  | rrcH
  | rrcL
  | rrcMHL
  | rrcA
  | rlB
  | rlC
  | rlD
  | rlE
  | rlH
  | rlL
  | rlMHL
  | rlA
  | rrB
  | rrC
  | rrD
  | rrE
  | rrH
  | rrL
  | rrMHL
  | rrA
  | slaB
  | slaC
  | slaD
  | slaE
  | slaH
  | slaL
  | slaMHL
  | slaA
  | sraB
  | sraC
  | sraD
  | sraE
  | sraH
  | sraL
  | sraMHL
  | sraA
  | swapB
  | swapC
  | swapD
  | swapE
  | swapH
  | swapL
  | swapMHL
  | swapA
  | srlB
  | srlC
  | srlD
  | srlE
  | srlH
  | srlL
  | srlMHL
  | srlA
  | bit0_B
  | bit0_C
  | bit0_D
  | bit0_E
  | bit0_H
  | bit0_L
  | bit0_MHL
  | bit0_A
  | bit1_B
  | bit1_C
  | bit1_D
  | bit1_E
  | bit1_H
  | bit1_L
  | bit1_MHL
  | bit1_A
  | bit2_B
  | bit2_C
  | bit2_D
  | bit2_E
  | bit2_H
  | bit2_L
  | bit2_MHL
  | bit2_A
  | bit3_B
  | bit3_C
  | bit3_D
  | bit3_E
  | bit3_H
  | bit3_L
  | bit3_MHL
  | bit3_A
  | bit4_B
  | bit4_C
  | bit4_D
  | bit4_E
  | bit4_H
  | bit4_L
  | bit4_MHL
  | bit4_A
  | bit5_B
  | bit5_C
  | bit5_D
  | bit5_E
  | bit5_H
  | bit5_L
  | bit5_MHL
  | bit5_A
  | bit6_B
  | bit6_C
  | bit6_D
  | bit6_E
  | bit6_H
  | bit6_L
  | bit6_MHL
  | bit6_A
  | bit7_B
  | bit7_C
  | bit7_D
  | bit7_E
  | bit7_H
  | bit7_L
  | bit7_MHL
  | bit7_A
  | res0_B
  | res0_C
  | res0_D
  | res0_E
  | res0_H
  | res0_L
  | res0_MHL
  | res0_A
  | res1_B
  | res1_C
  | res1_D
  | res1_E
  | res1_H
  | res1_L
  | res1_MHL
  | res1_A
  | res2_B
  | res2_C
  | res2_D
  | res2_E
  | res2_H
  | res2_L
  | res2_MHL
  | res2_A
  | res3_B
  | res3_C
  | res3_D
  | res3_E
  | res3_H
  | res3_L
  | res3_MHL
  | res3_A
  | res4_B
  | res4_C
  | res4_D
  | res4_E
  | res4_H
  | res4_L
  | res4_MHL
  | res4_A
  | res5_B
  | res5_C
  | res5_D
  | res5_E
  | res5_H
  | res5_L
  | res5_MHL
  | res5_A
  | res6_B
  | res6_C
  | res6_D
  | res6_E
  | res6_H
  | res6_L
  | res6_MHL
  | res6_A
  | res7_B
  | res7_C
  | res7_D
  | res7_E
  | res7_H
  | res7_L
  | res7_MHL
  | res7_A
  | set0_B
  | set0_C
  | set0_D
  | set0_E
  | set0_H
  | set0_L
  | set0_MHL
  | set0_A
  | set1_B
  | set1_C
  | set1_D
  | set1_E
  | set1_H
  | set1_L
  | set1_MHL
  | set1_A
  | set2_B
  | set2_C
  | set2_D
  | set2_E
  | set2_H
  | set2_L
  | set2_MHL
  | set2_A
  | set3_B
  | set3_C
  | set3_D
  | set3_E
  | set3_H
  | set3_L
  | set3_MHL
  | set3_A
  | set4_B
  | set4_C
  | set4_D
  | set4_E
  | set4_H
  | set4_L
  | set4_MHL
  | set4_A
  | set5_B
  | set5_C
  | set5_D
  | set5_E
  | set5_H
  | set5_L
  | set5_MHL
  | set5_A
  | set6_B
  | set6_C
  | set6_D
  | set6_E
  | set6_H
  | set6_L
  | set6_MHL
  | set6_A
  | set7_B
  | set7_C
  | set7_D
  | set7_E
  | set7_H
  | set7_L
  | set7_MHL
  | set7_A
  deriving DecidableEq, Repr

end Sys2Proof
end

