-- ==== Sys2Proof/WellFormed.lean ====
section
/-! DEFINITION. Which instruction terms are well formed. Every operand has exactly the width its encoding gives it, so
the one check is on the prefix: `prefixCB op2` is the pair 0xCB, `op2` with its second byte not yet looked up, a second
spelling of the secondary-page instruction `op2` selects (R250; log 8). The decoder answers that instruction. -/

namespace Sys2Proof

/-- The term is the prefix with an undecoded second byte. -/
def Instr.isPrefix (i : Instr) : Bool :=
  match i with
  | .prefixCB _ => true
  | _ => false

/-- A well-formed instruction: one the decoder can answer. -/
def wellFormed (i : Instr) : Bool := !i.isPrefix

end Sys2Proof
end

