-- ==== Sys2Proof/Decode.lean ====
section
/-! DEFINITION. The decoder (R90 to R105): a lookup by the first byte in the primary page, and by the second byte in
the secondary page behind the prefix 0xCB. It is total: every byte string that is long enough decodes, and a string
that ends inside an instruction is rejected by name. After it the encoder, written from the same tables, and the two
functions by which the host writes an instruction as a table word. -/

namespace Sys2Proof

/-- Why a byte string is not an instruction: it ends before the length its first byte fixes (R91). -/
inductive DecodeError where
  | truncated
  deriving DecidableEq, Repr

/-- First bytes 0x00 to 0x0F (R105); `b` and `c` are the two bytes that follow. -/
def primaryRow0 : List (Byte → Byte → Instr) :=
  [fun _ _ => .nop, fun b c => .ldBC_d16 (word c b), fun _ _ => .ldMBC_A, fun _ _ => .incBC,
   fun _ _ => .incB, fun _ _ => .decB, fun b _ => .ldB_d8 b, fun _ _ => .rlca,
   fun b c => .ldMa16_SP (word c b), fun _ _ => .addHL_BC, fun _ _ => .ldA_MBC, fun _ _ => .decBC,
   fun _ _ => .incC, fun _ _ => .decC, fun b _ => .ldC_d8 b, fun _ _ => .rrca]

/-- First bytes 0x10 to 0x1F (R105); `b` and `c` are the two bytes that follow. -/
def primaryRow1 : List (Byte → Byte → Instr) :=
  [fun _ _ => .stop, fun b c => .ldDE_d16 (word c b), fun _ _ => .ldMDE_A, fun _ _ => .incDE,
   fun _ _ => .incD, fun _ _ => .decD, fun b _ => .ldD_d8 b, fun _ _ => .rla,
   fun b _ => .jr_e8 b, fun _ _ => .addHL_DE, fun _ _ => .ldA_MDE, fun _ _ => .decDE,
   fun _ _ => .incE, fun _ _ => .decE, fun b _ => .ldE_d8 b, fun _ _ => .rra]

/-- First bytes 0x20 to 0x2F (R105); `b` and `c` are the two bytes that follow. -/
def primaryRow2 : List (Byte → Byte → Instr) :=
  [fun b _ => .jrNZ_e8 b, fun b c => .ldHL_d16 (word c b), fun _ _ => .ldMHLInc_A, fun _ _ => .incHL,
   fun _ _ => .incH, fun _ _ => .decH, fun b _ => .ldH_d8 b, fun _ _ => .daa,
   fun b _ => .jrZ_e8 b, fun _ _ => .addHL_HL, fun _ _ => .ldA_MHLInc, fun _ _ => .decHL,
   fun _ _ => .incL, fun _ _ => .decL, fun b _ => .ldL_d8 b, fun _ _ => .cpl]

/-- First bytes 0x30 to 0x3F (R105); `b` and `c` are the two bytes that follow. -/
def primaryRow3 : List (Byte → Byte → Instr) :=
  [fun b _ => .jrNC_e8 b, fun b c => .ldSP_d16 (word c b), fun _ _ => .ldMHLDec_A, fun _ _ => .incSP,
   fun _ _ => .incMHL, fun _ _ => .decMHL, fun b _ => .ldMHL_d8 b, fun _ _ => .scf,
   fun b _ => .jrC_e8 b, fun _ _ => .addHL_SP, fun _ _ => .ldA_MHLDec, fun _ _ => .decSP,
   fun _ _ => .incA, fun _ _ => .decA, fun b _ => .ldA_d8 b, fun _ _ => .ccf]

/-- First bytes 0x40 to 0x4F (R105); `b` and `c` are the two bytes that follow. -/
def primaryRow4 : List (Byte → Byte → Instr) :=
  [fun _ _ => .ldB_B, fun _ _ => .ldB_C, fun _ _ => .ldB_D, fun _ _ => .ldB_E,
   fun _ _ => .ldB_H, fun _ _ => .ldB_L, fun _ _ => .ldB_MHL, fun _ _ => .ldB_A,
   fun _ _ => .ldC_B, fun _ _ => .ldC_C, fun _ _ => .ldC_D, fun _ _ => .ldC_E,
   fun _ _ => .ldC_H, fun _ _ => .ldC_L, fun _ _ => .ldC_MHL, fun _ _ => .ldC_A]

/-- First bytes 0x50 to 0x5F (R105); `b` and `c` are the two bytes that follow. -/
def primaryRow5 : List (Byte → Byte → Instr) :=
  [fun _ _ => .ldD_B, fun _ _ => .ldD_C, fun _ _ => .ldD_D, fun _ _ => .ldD_E,
   fun _ _ => .ldD_H, fun _ _ => .ldD_L, fun _ _ => .ldD_MHL, fun _ _ => .ldD_A,
   fun _ _ => .ldE_B, fun _ _ => .ldE_C, fun _ _ => .ldE_D, fun _ _ => .ldE_E,
   fun _ _ => .ldE_H, fun _ _ => .ldE_L, fun _ _ => .ldE_MHL, fun _ _ => .ldE_A]

/-- First bytes 0x60 to 0x6F (R105); `b` and `c` are the two bytes that follow. -/
def primaryRow6 : List (Byte → Byte → Instr) :=
  [fun _ _ => .ldH_B, fun _ _ => .ldH_C, fun _ _ => .ldH_D, fun _ _ => .ldH_E,
   fun _ _ => .ldH_H, fun _ _ => .ldH_L, fun _ _ => .ldH_MHL, fun _ _ => .ldH_A,
   fun _ _ => .ldL_B, fun _ _ => .ldL_C, fun _ _ => .ldL_D, fun _ _ => .ldL_E,
   fun _ _ => .ldL_H, fun _ _ => .ldL_L, fun _ _ => .ldL_MHL, fun _ _ => .ldL_A]

/-- First bytes 0x70 to 0x7F (R105); `b` and `c` are the two bytes that follow. -/
def primaryRow7 : List (Byte → Byte → Instr) :=
  [fun _ _ => .ldMHL_B, fun _ _ => .ldMHL_C, fun _ _ => .ldMHL_D, fun _ _ => .ldMHL_E,
   fun _ _ => .ldMHL_H, fun _ _ => .ldMHL_L, fun _ _ => .halt, fun _ _ => .ldMHL_A,
   fun _ _ => .ldA_B, fun _ _ => .ldA_C, fun _ _ => .ldA_D, fun _ _ => .ldA_E,
   fun _ _ => .ldA_H, fun _ _ => .ldA_L, fun _ _ => .ldA_MHL, fun _ _ => .ldA_A]

/-- First bytes 0x80 to 0x8F (R105); `b` and `c` are the two bytes that follow. -/
def primaryRow8 : List (Byte → Byte → Instr) :=
  [fun _ _ => .addA_B, fun _ _ => .addA_C, fun _ _ => .addA_D, fun _ _ => .addA_E,
   fun _ _ => .addA_H, fun _ _ => .addA_L, fun _ _ => .addA_MHL, fun _ _ => .addA_A,
   fun _ _ => .adcA_B, fun _ _ => .adcA_C, fun _ _ => .adcA_D, fun _ _ => .adcA_E,
   fun _ _ => .adcA_H, fun _ _ => .adcA_L, fun _ _ => .adcA_MHL, fun _ _ => .adcA_A]

/-- First bytes 0x90 to 0x9F (R105); `b` and `c` are the two bytes that follow. -/
def primaryRow9 : List (Byte → Byte → Instr) :=
  [fun _ _ => .subA_B, fun _ _ => .subA_C, fun _ _ => .subA_D, fun _ _ => .subA_E,
   fun _ _ => .subA_H, fun _ _ => .subA_L, fun _ _ => .subA_MHL, fun _ _ => .subA_A,
   fun _ _ => .sbcA_B, fun _ _ => .sbcA_C, fun _ _ => .sbcA_D, fun _ _ => .sbcA_E,
   fun _ _ => .sbcA_H, fun _ _ => .sbcA_L, fun _ _ => .sbcA_MHL, fun _ _ => .sbcA_A]

/-- First bytes 0xA0 to 0xAF (R105); `b` and `c` are the two bytes that follow. -/
def primaryRowA : List (Byte → Byte → Instr) :=
  [fun _ _ => .andA_B, fun _ _ => .andA_C, fun _ _ => .andA_D, fun _ _ => .andA_E,
   fun _ _ => .andA_H, fun _ _ => .andA_L, fun _ _ => .andA_MHL, fun _ _ => .andA_A,
   fun _ _ => .xorA_B, fun _ _ => .xorA_C, fun _ _ => .xorA_D, fun _ _ => .xorA_E,
   fun _ _ => .xorA_H, fun _ _ => .xorA_L, fun _ _ => .xorA_MHL, fun _ _ => .xorA_A]

/-- First bytes 0xB0 to 0xBF (R105); `b` and `c` are the two bytes that follow. -/
def primaryRowB : List (Byte → Byte → Instr) :=
  [fun _ _ => .orA_B, fun _ _ => .orA_C, fun _ _ => .orA_D, fun _ _ => .orA_E,
   fun _ _ => .orA_H, fun _ _ => .orA_L, fun _ _ => .orA_MHL, fun _ _ => .orA_A,
   fun _ _ => .cpA_B, fun _ _ => .cpA_C, fun _ _ => .cpA_D, fun _ _ => .cpA_E,
   fun _ _ => .cpA_H, fun _ _ => .cpA_L, fun _ _ => .cpA_MHL, fun _ _ => .cpA_A]

/-- First bytes 0xC0 to 0xCF (R105); `b` and `c` are the two bytes that follow. -/
def primaryRowC : List (Byte → Byte → Instr) :=
  [fun _ _ => .retNZ, fun _ _ => .popBC, fun b c => .jpNZ_a16 (word c b), fun b c => .jp_a16 (word c b),
   fun b c => .callNZ_a16 (word c b), fun _ _ => .pushBC, fun b _ => .addA_d8 b, fun _ _ => .rst00,
   fun _ _ => .retZ, fun _ _ => .ret, fun b c => .jpZ_a16 (word c b), fun b _ => .prefixCB b,
   fun b c => .callZ_a16 (word c b), fun b c => .call_a16 (word c b), fun b _ => .adcA_d8 b, fun _ _ => .rst08]

/-- First bytes 0xD0 to 0xDF (R105); `b` and `c` are the two bytes that follow. -/
def primaryRowD : List (Byte → Byte → Instr) :=
  [fun _ _ => .retNC, fun _ _ => .popDE, fun b c => .jpNC_a16 (word c b), fun _ _ => .undefinedD3,
   fun b c => .callNC_a16 (word c b), fun _ _ => .pushDE, fun b _ => .subA_d8 b, fun _ _ => .rst10,
   fun _ _ => .retC, fun _ _ => .reti, fun b c => .jpC_a16 (word c b), fun _ _ => .undefinedDB,
   fun b c => .callC_a16 (word c b), fun _ _ => .undefinedDD, fun b _ => .sbcA_d8 b, fun _ _ => .rst18]

/-- First bytes 0xE0 to 0xEF (R105); `b` and `c` are the two bytes that follow. -/
def primaryRowE : List (Byte → Byte → Instr) :=
  [fun b _ => .ldhMa8_A b, fun _ _ => .popHL, fun _ _ => .ldMC_A, fun _ _ => .undefinedE3,
   fun _ _ => .undefinedE4, fun _ _ => .pushHL, fun b _ => .andA_d8 b, fun _ _ => .rst20,
   fun b _ => .addSP_e8 b, fun _ _ => .jpHL, fun b c => .ldMa16_A (word c b), fun _ _ => .undefinedEB,
   fun _ _ => .undefinedEC, fun _ _ => .undefinedED, fun b _ => .xorA_d8 b, fun _ _ => .rst28]

/-- First bytes 0xF0 to 0xFF (R105); `b` and `c` are the two bytes that follow. -/
def primaryRowF : List (Byte → Byte → Instr) :=
  [fun b _ => .ldhA_Ma8 b, fun _ _ => .popAF, fun _ _ => .ldA_MC, fun _ _ => .di,
   fun _ _ => .undefinedF4, fun _ _ => .pushAF, fun b _ => .orA_d8 b, fun _ _ => .rst30,
   fun b _ => .ldHL_SPe8 b, fun _ _ => .ldSP_HL, fun b c => .ldA_Ma16 (word c b), fun _ _ => .ei,
   fun _ _ => .undefinedFC, fun _ _ => .undefinedFD, fun b _ => .cpA_d8 b, fun _ _ => .rst38]

/-- The primary page (R95 to R98). The entry of 0xCB is not used: the prefix selects the secondary page. -/
def primaryPage : List (Byte → Byte → Instr) :=
  primaryRow0 ++ primaryRow1 ++ primaryRow2 ++ primaryRow3 ++ primaryRow4 ++ primaryRow5 ++ primaryRow6 ++ primaryRow7 ++
  primaryRow8 ++ primaryRow9 ++ primaryRowA ++ primaryRowB ++ primaryRowC ++ primaryRowD ++ primaryRowE ++ primaryRowF

/-- Second bytes 0x00 to 0x0F after 0xCB (R99). -/
def secondaryRow0 : List Instr :=
  [.rlcB, .rlcC, .rlcD, .rlcE, .rlcH, .rlcL, .rlcMHL, .rlcA,
   .rrcB, .rrcC, .rrcD, .rrcE, .rrcH, .rrcL, .rrcMHL, .rrcA]

/-- Second bytes 0x10 to 0x1F after 0xCB (R99). -/
def secondaryRow1 : List Instr :=
  [.rlB, .rlC, .rlD, .rlE, .rlH, .rlL, .rlMHL, .rlA,
   .rrB, .rrC, .rrD, .rrE, .rrH, .rrL, .rrMHL, .rrA]

/-- Second bytes 0x20 to 0x2F after 0xCB (R99). -/
def secondaryRow2 : List Instr :=
  [.slaB, .slaC, .slaD, .slaE, .slaH, .slaL, .slaMHL, .slaA,
   .sraB, .sraC, .sraD, .sraE, .sraH, .sraL, .sraMHL, .sraA]

/-- Second bytes 0x30 to 0x3F after 0xCB (R99). -/
def secondaryRow3 : List Instr :=
  [.swapB, .swapC, .swapD, .swapE, .swapH, .swapL, .swapMHL, .swapA,
   .srlB, .srlC, .srlD, .srlE, .srlH, .srlL, .srlMHL, .srlA]

/-- Second bytes 0x40 to 0x4F after 0xCB (R99). -/
def secondaryRow4 : List Instr :=
  [.bit0_B, .bit0_C, .bit0_D, .bit0_E, .bit0_H, .bit0_L, .bit0_MHL, .bit0_A,
   .bit1_B, .bit1_C, .bit1_D, .bit1_E, .bit1_H, .bit1_L, .bit1_MHL, .bit1_A]

/-- Second bytes 0x50 to 0x5F after 0xCB (R99). -/
def secondaryRow5 : List Instr :=
  [.bit2_B, .bit2_C, .bit2_D, .bit2_E, .bit2_H, .bit2_L, .bit2_MHL, .bit2_A,
   .bit3_B, .bit3_C, .bit3_D, .bit3_E, .bit3_H, .bit3_L, .bit3_MHL, .bit3_A]

/-- Second bytes 0x60 to 0x6F after 0xCB (R99). -/
def secondaryRow6 : List Instr :=
  [.bit4_B, .bit4_C, .bit4_D, .bit4_E, .bit4_H, .bit4_L, .bit4_MHL, .bit4_A,
   .bit5_B, .bit5_C, .bit5_D, .bit5_E, .bit5_H, .bit5_L, .bit5_MHL, .bit5_A]

/-- Second bytes 0x70 to 0x7F after 0xCB (R99). -/
def secondaryRow7 : List Instr :=
  [.bit6_B, .bit6_C, .bit6_D, .bit6_E, .bit6_H, .bit6_L, .bit6_MHL, .bit6_A,
   .bit7_B, .bit7_C, .bit7_D, .bit7_E, .bit7_H, .bit7_L, .bit7_MHL, .bit7_A]

/-- Second bytes 0x80 to 0x8F after 0xCB (R99). -/
def secondaryRow8 : List Instr :=
  [.res0_B, .res0_C, .res0_D, .res0_E, .res0_H, .res0_L, .res0_MHL, .res0_A,
   .res1_B, .res1_C, .res1_D, .res1_E, .res1_H, .res1_L, .res1_MHL, .res1_A]

/-- Second bytes 0x90 to 0x9F after 0xCB (R99). -/
def secondaryRow9 : List Instr :=
  [.res2_B, .res2_C, .res2_D, .res2_E, .res2_H, .res2_L, .res2_MHL, .res2_A,
   .res3_B, .res3_C, .res3_D, .res3_E, .res3_H, .res3_L, .res3_MHL, .res3_A]

/-- Second bytes 0xA0 to 0xAF after 0xCB (R99). -/
def secondaryRowA : List Instr :=
  [.res4_B, .res4_C, .res4_D, .res4_E, .res4_H, .res4_L, .res4_MHL, .res4_A,
   .res5_B, .res5_C, .res5_D, .res5_E, .res5_H, .res5_L, .res5_MHL, .res5_A]

/-- Second bytes 0xB0 to 0xBF after 0xCB (R99). -/
def secondaryRowB : List Instr :=
  [.res6_B, .res6_C, .res6_D, .res6_E, .res6_H, .res6_L, .res6_MHL, .res6_A,
   .res7_B, .res7_C, .res7_D, .res7_E, .res7_H, .res7_L, .res7_MHL, .res7_A]

/-- Second bytes 0xC0 to 0xCF after 0xCB (R99). -/
def secondaryRowC : List Instr :=
  [.set0_B, .set0_C, .set0_D, .set0_E, .set0_H, .set0_L, .set0_MHL, .set0_A,
   .set1_B, .set1_C, .set1_D, .set1_E, .set1_H, .set1_L, .set1_MHL, .set1_A]

/-- Second bytes 0xD0 to 0xDF after 0xCB (R99). -/
def secondaryRowD : List Instr :=
  [.set2_B, .set2_C, .set2_D, .set2_E, .set2_H, .set2_L, .set2_MHL, .set2_A,
   .set3_B, .set3_C, .set3_D, .set3_E, .set3_H, .set3_L, .set3_MHL, .set3_A]

/-- Second bytes 0xE0 to 0xEF after 0xCB (R99). -/
def secondaryRowE : List Instr :=
  [.set4_B, .set4_C, .set4_D, .set4_E, .set4_H, .set4_L, .set4_MHL, .set4_A,
   .set5_B, .set5_C, .set5_D, .set5_E, .set5_H, .set5_L, .set5_MHL, .set5_A]

/-- Second bytes 0xF0 to 0xFF after 0xCB (R99). -/
def secondaryRowF : List Instr :=
  [.set6_B, .set6_C, .set6_D, .set6_E, .set6_H, .set6_L, .set6_MHL, .set6_A,
   .set7_B, .set7_C, .set7_D, .set7_E, .set7_H, .set7_L, .set7_MHL, .set7_A]

/-- The secondary page (R99). -/
def secondaryPage : List Instr :=
  secondaryRow0 ++ secondaryRow1 ++ secondaryRow2 ++ secondaryRow3 ++ secondaryRow4 ++ secondaryRow5 ++ secondaryRow6 ++ secondaryRow7 ++
  secondaryRow8 ++ secondaryRow9 ++ secondaryRowA ++ secondaryRowB ++ secondaryRowC ++ secondaryRowD ++ secondaryRowE ++ secondaryRowF

/-- The LEN grid (R104): the length in bytes by first byte. -/
def lengthTable : List Nat :=
  [1, 3, 1, 1, 1, 1, 2, 1, 3, 1, 1, 1, 1, 1, 2, 1] ++
  [1, 3, 1, 1, 1, 1, 2, 1, 2, 1, 1, 1, 1, 1, 2, 1] ++
  [2, 3, 1, 1, 1, 1, 2, 1, 2, 1, 1, 1, 1, 1, 2, 1] ++
  [2, 3, 1, 1, 1, 1, 2, 1, 2, 1, 1, 1, 1, 1, 2, 1] ++
  [1, 1, 1, 1, 1, 1, 1, 1, 1, 1, 1, 1, 1, 1, 1, 1] ++
  [1, 1, 1, 1, 1, 1, 1, 1, 1, 1, 1, 1, 1, 1, 1, 1] ++
  [1, 1, 1, 1, 1, 1, 1, 1, 1, 1, 1, 1, 1, 1, 1, 1] ++
  [1, 1, 1, 1, 1, 1, 1, 1, 1, 1, 1, 1, 1, 1, 1, 1] ++
  [1, 1, 1, 1, 1, 1, 1, 1, 1, 1, 1, 1, 1, 1, 1, 1] ++
  [1, 1, 1, 1, 1, 1, 1, 1, 1, 1, 1, 1, 1, 1, 1, 1] ++
  [1, 1, 1, 1, 1, 1, 1, 1, 1, 1, 1, 1, 1, 1, 1, 1] ++
  [1, 1, 1, 1, 1, 1, 1, 1, 1, 1, 1, 1, 1, 1, 1, 1] ++
  [1, 1, 3, 3, 3, 1, 2, 1, 1, 1, 3, 2, 3, 3, 2, 1] ++
  [1, 1, 3, 1, 3, 1, 2, 1, 1, 1, 3, 1, 3, 1, 2, 1] ++
  [2, 1, 1, 1, 1, 1, 2, 1, 2, 1, 3, 1, 1, 1, 2, 1] ++
  [2, 1, 1, 1, 1, 1, 2, 1, 2, 1, 3, 1, 1, 1, 2, 1]

/-- The length in bytes of the instruction whose first byte is `b0` (R91: the first byte alone determines it). -/
def lengthOf (b0 : Byte) : Nat := lengthTable.getD b0.toNat 1

/-- The instruction that starts with the bytes `b0`, `b1`, `b2`; the bytes past its length play no part. -/
def decode3 (b0 b1 b2 : Byte) : Instr :=
  if b0 = 0xCB#8 then secondaryPage.getD b1.toNat .nop
  else primaryPage.getD b0.toNat (fun _ _ => .nop) b1 b2

/-- Decode the first instruction of a byte string; the answer holds the rest of the string. -/
def decode : List Byte → Except DecodeError (Instr × List Byte)
  | [] => .error .truncated
  | b0 :: r0 =>
    match lengthOf b0, r0 with
    | 1, r => .ok (decode3 b0 0#8 0#8, r)
    | 2, b1 :: r => .ok (decode3 b0 b1 0#8, r)
    | 3, b1 :: b2 :: r => .ok (decode3 b0 b1 b2, r)
    | _, _ => .error .truncated

/-- The bytes of an instruction, in ascending address order (R91, R94). -/
def encode (i : Instr) : List Byte :=
  match i with
  | .nop => [0x00#8]
  | .ldBC_d16 v => [0x01#8, loByte v, hiByte v]
  | .ldMBC_A => [0x02#8]
  | .incBC => [0x03#8]
  | .incB => [0x04#8]
  | .decB => [0x05#8]
  | .ldB_d8 d => [0x06#8, d]
  | .rlca => [0x07#8]
  | .ldMa16_SP addr => [0x08#8, loByte addr, hiByte addr]
  | .addHL_BC => [0x09#8]
  | .ldA_MBC => [0x0A#8]
  | .decBC => [0x0B#8]
  | .incC => [0x0C#8]
  | .decC => [0x0D#8]
  | .ldC_d8 d => [0x0E#8, d]
  | .rrca => [0x0F#8]
  | .stop => [0x10#8]
  | .ldDE_d16 v => [0x11#8, loByte v, hiByte v]
  | .ldMDE_A => [0x12#8]
  | .incDE => [0x13#8]
  | .incD => [0x14#8]
  | .decD => [0x15#8]
  | .ldD_d8 d => [0x16#8, d]
  | .rla => [0x17#8]
  | .jr_e8 e => [0x18#8, e]
  | .addHL_DE => [0x19#8]
  | .ldA_MDE => [0x1A#8]
  | .decDE => [0x1B#8]
  | .incE => [0x1C#8]
  | .decE => [0x1D#8]
  | .ldE_d8 d => [0x1E#8, d]
  | .rra => [0x1F#8]
  | .jrNZ_e8 e => [0x20#8, e]
  | .ldHL_d16 v => [0x21#8, loByte v, hiByte v]
  | .ldMHLInc_A => [0x22#8]
  | .incHL => [0x23#8]
  | .incH => [0x24#8]
  | .decH => [0x25#8]
  | .ldH_d8 d => [0x26#8, d]
  | .daa => [0x27#8]
  | .jrZ_e8 e => [0x28#8, e]
  | .addHL_HL => [0x29#8]
  | .ldA_MHLInc => [0x2A#8]
  | .decHL => [0x2B#8]
  | .incL => [0x2C#8]
  | .decL => [0x2D#8]
  | .ldL_d8 d => [0x2E#8, d]
  | .cpl => [0x2F#8]
  | .jrNC_e8 e => [0x30#8, e]
  | .ldSP_d16 v => [0x31#8, loByte v, hiByte v]
  | .ldMHLDec_A => [0x32#8]
  | .incSP => [0x33#8]
  | .incMHL => [0x34#8]
  | .decMHL => [0x35#8]
  | .ldMHL_d8 d => [0x36#8, d]
  | .scf => [0x37#8]
  | .jrC_e8 e => [0x38#8, e]
  | .addHL_SP => [0x39#8]
  | .ldA_MHLDec => [0x3A#8]
  | .decSP => [0x3B#8]
  | .incA => [0x3C#8]
  | .decA => [0x3D#8]
  | .ldA_d8 d => [0x3E#8, d]
  | .ccf => [0x3F#8]
  | .ldB_B => [0x40#8]
  | .ldB_C => [0x41#8]
  | .ldB_D => [0x42#8]
  | .ldB_E => [0x43#8]
  | .ldB_H => [0x44#8]
  | .ldB_L => [0x45#8]
  | .ldB_MHL => [0x46#8]
  | .ldB_A => [0x47#8]
  | .ldC_B => [0x48#8]
  | .ldC_C => [0x49#8]
  | .ldC_D => [0x4A#8]
  | .ldC_E => [0x4B#8]
  | .ldC_H => [0x4C#8]
  | .ldC_L => [0x4D#8]
  | .ldC_MHL => [0x4E#8]
  | .ldC_A => [0x4F#8]
  | .ldD_B => [0x50#8]
  | .ldD_C => [0x51#8]
  | .ldD_D => [0x52#8]
  | .ldD_E => [0x53#8]
  | .ldD_H => [0x54#8]
  | .ldD_L => [0x55#8]
  | .ldD_MHL => [0x56#8]
  | .ldD_A => [0x57#8]
  | .ldE_B => [0x58#8]
  | .ldE_C => [0x59#8]
  | .ldE_D => [0x5A#8]
  | .ldE_E => [0x5B#8]
  | .ldE_H => [0x5C#8]
  | .ldE_L => [0x5D#8]
  | .ldE_MHL => [0x5E#8]
  | .ldE_A => [0x5F#8]
  | .ldH_B => [0x60#8]
  | .ldH_C => [0x61#8]
  | .ldH_D => [0x62#8]
  | .ldH_E => [0x63#8]
  | .ldH_H => [0x64#8]
  | .ldH_L => [0x65#8]
  | .ldH_MHL => [0x66#8]
  | .ldH_A => [0x67#8]
  | .ldL_B => [0x68#8]
  | .ldL_C => [0x69#8]
  | .ldL_D => [0x6A#8]
  | .ldL_E => [0x6B#8]
  | .ldL_H => [0x6C#8]
  | .ldL_L => [0x6D#8]
  | .ldL_MHL => [0x6E#8]
  | .ldL_A => [0x6F#8]
  | .ldMHL_B => [0x70#8]
  | .ldMHL_C => [0x71#8]
  | .ldMHL_D => [0x72#8]
  | .ldMHL_E => [0x73#8]
  | .ldMHL_H => [0x74#8]
  | .ldMHL_L => [0x75#8]
  | .halt => [0x76#8]
  | .ldMHL_A => [0x77#8]
  | .ldA_B => [0x78#8]
  | .ldA_C => [0x79#8]
  | .ldA_D => [0x7A#8]
  | .ldA_E => [0x7B#8]
  | .ldA_H => [0x7C#8]
  | .ldA_L => [0x7D#8]
  | .ldA_MHL => [0x7E#8]
  | .ldA_A => [0x7F#8]
  | .addA_B => [0x80#8]
  | .addA_C => [0x81#8]
  | .addA_D => [0x82#8]
  | .addA_E => [0x83#8]
  | .addA_H => [0x84#8]
  | .addA_L => [0x85#8]
  | .addA_MHL => [0x86#8]
  | .addA_A => [0x87#8]
  | .adcA_B => [0x88#8]
  | .adcA_C => [0x89#8]
  | .adcA_D => [0x8A#8]
  | .adcA_E => [0x8B#8]
  | .adcA_H => [0x8C#8]
  | .adcA_L => [0x8D#8]
  | .adcA_MHL => [0x8E#8]
  | .adcA_A => [0x8F#8]
  | .subA_B => [0x90#8]
  | .subA_C => [0x91#8]
  | .subA_D => [0x92#8]
  | .subA_E => [0x93#8]
  | .subA_H => [0x94#8]
  | .subA_L => [0x95#8]
  | .subA_MHL => [0x96#8]
  | .subA_A => [0x97#8]
  | .sbcA_B => [0x98#8]
  | .sbcA_C => [0x99#8]
  | .sbcA_D => [0x9A#8]
  | .sbcA_E => [0x9B#8]
  | .sbcA_H => [0x9C#8]
  | .sbcA_L => [0x9D#8]
  | .sbcA_MHL => [0x9E#8]
  | .sbcA_A => [0x9F#8]
  | .andA_B => [0xA0#8]
  | .andA_C => [0xA1#8]
  | .andA_D => [0xA2#8]
  | .andA_E => [0xA3#8]
  | .andA_H => [0xA4#8]
  | .andA_L => [0xA5#8]
  | .andA_MHL => [0xA6#8]
  | .andA_A => [0xA7#8]
  | .xorA_B => [0xA8#8]
  | .xorA_C => [0xA9#8]
  | .xorA_D => [0xAA#8]
  | .xorA_E => [0xAB#8]
  | .xorA_H => [0xAC#8]
  | .xorA_L => [0xAD#8]
  | .xorA_MHL => [0xAE#8]
  | .xorA_A => [0xAF#8]
  | .orA_B => [0xB0#8]
  | .orA_C => [0xB1#8]
  | .orA_D => [0xB2#8]
  | .orA_E => [0xB3#8]
  | .orA_H => [0xB4#8]
  | .orA_L => [0xB5#8]
  | .orA_MHL => [0xB6#8]
  | .orA_A => [0xB7#8]
  | .cpA_B => [0xB8#8]
  | .cpA_C => [0xB9#8]
  | .cpA_D => [0xBA#8]
  | .cpA_E => [0xBB#8]
  | .cpA_H => [0xBC#8]
  | .cpA_L => [0xBD#8]
  | .cpA_MHL => [0xBE#8]
  | .cpA_A => [0xBF#8]
  | .retNZ => [0xC0#8]
  | .popBC => [0xC1#8]
  | .jpNZ_a16 addr => [0xC2#8, loByte addr, hiByte addr]
  | .jp_a16 addr => [0xC3#8, loByte addr, hiByte addr]
  | .callNZ_a16 addr => [0xC4#8, loByte addr, hiByte addr]
  | .pushBC => [0xC5#8]
  | .addA_d8 d => [0xC6#8, d]
  | .rst00 => [0xC7#8]
  | .retZ => [0xC8#8]
  | .ret => [0xC9#8]
  | .jpZ_a16 addr => [0xCA#8, loByte addr, hiByte addr]
  | .prefixCB op2 => [0xCB#8, op2]
  | .callZ_a16 addr => [0xCC#8, loByte addr, hiByte addr]
  | .call_a16 addr => [0xCD#8, loByte addr, hiByte addr]
  | .adcA_d8 d => [0xCE#8, d]
  | .rst08 => [0xCF#8]
  | .retNC => [0xD0#8]
  | .popDE => [0xD1#8]
  | .jpNC_a16 addr => [0xD2#8, loByte addr, hiByte addr]
  | .undefinedD3 => [0xD3#8]
  | .callNC_a16 addr => [0xD4#8, loByte addr, hiByte addr]
  | .pushDE => [0xD5#8]
  | .subA_d8 d => [0xD6#8, d]
  | .rst10 => [0xD7#8]
  | .retC => [0xD8#8]
  | .reti => [0xD9#8]
  | .jpC_a16 addr => [0xDA#8, loByte addr, hiByte addr]
  | .undefinedDB => [0xDB#8]
  | .callC_a16 addr => [0xDC#8, loByte addr, hiByte addr]
  | .undefinedDD => [0xDD#8]
  | .sbcA_d8 d => [0xDE#8, d]
  | .rst18 => [0xDF#8]
  | .ldhMa8_A o => [0xE0#8, o]
  | .popHL => [0xE1#8]
  | .ldMC_A => [0xE2#8]
  | .undefinedE3 => [0xE3#8]
  | .undefinedE4 => [0xE4#8]
  | .pushHL => [0xE5#8]
  | .andA_d8 d => [0xE6#8, d]
  | .rst20 => [0xE7#8]
  | .addSP_e8 e => [0xE8#8, e]
  | .jpHL => [0xE9#8]
  | .ldMa16_A addr => [0xEA#8, loByte addr, hiByte addr]
  | .undefinedEB => [0xEB#8]
  | .undefinedEC => [0xEC#8]
  | .undefinedED => [0xED#8]
  | .xorA_d8 d => [0xEE#8, d]
  | .rst28 => [0xEF#8]
  | .ldhA_Ma8 o => [0xF0#8, o]
  | .popAF => [0xF1#8]
  | .ldA_MC => [0xF2#8]
  | .di => [0xF3#8]
  | .undefinedF4 => [0xF4#8]
  | .pushAF => [0xF5#8]
  | .orA_d8 d => [0xF6#8, d]
  | .rst30 => [0xF7#8]
  | .ldHL_SPe8 e => [0xF8#8, e]
  | .ldSP_HL => [0xF9#8]
  | .ldA_Ma16 addr => [0xFA#8, loByte addr, hiByte addr]
  | .ei => [0xFB#8]
  | .undefinedFC => [0xFC#8]
  | .undefinedFD => [0xFD#8]
  | .cpA_d8 d => [0xFE#8, d]
  | .rst38 => [0xFF#8]
  | .rlcB => [0xCB#8, 0x00#8]
  | .rlcC => [0xCB#8, 0x01#8]
  | .rlcD => [0xCB#8, 0x02#8]
  | .rlcE => [0xCB#8, 0x03#8]
  | .rlcH => [0xCB#8, 0x04#8]
  | .rlcL => [0xCB#8, 0x05#8]
  | .rlcMHL => [0xCB#8, 0x06#8]
  | .rlcA => [0xCB#8, 0x07#8]
  | .rrcB => [0xCB#8, 0x08#8]
  | .rrcC => [0xCB#8, 0x09#8]
  | .rrcD => [0xCB#8, 0x0A#8]
  | .rrcE => [0xCB#8, 0x0B#8]
  | .rrcH => [0xCB#8, 0x0C#8]
  | .rrcL => [0xCB#8, 0x0D#8]
  | .rrcMHL => [0xCB#8, 0x0E#8]
  | .rrcA => [0xCB#8, 0x0F#8]
  | .rlB => [0xCB#8, 0x10#8]
  | .rlC => [0xCB#8, 0x11#8]
  | .rlD => [0xCB#8, 0x12#8]
  | .rlE => [0xCB#8, 0x13#8]
  | .rlH => [0xCB#8, 0x14#8]
  | .rlL => [0xCB#8, 0x15#8]
  | .rlMHL => [0xCB#8, 0x16#8]
  | .rlA => [0xCB#8, 0x17#8]
  | .rrB => [0xCB#8, 0x18#8]
  | .rrC => [0xCB#8, 0x19#8]
  | .rrD => [0xCB#8, 0x1A#8]
  | .rrE => [0xCB#8, 0x1B#8]
  | .rrH => [0xCB#8, 0x1C#8]
  | .rrL => [0xCB#8, 0x1D#8]
  | .rrMHL => [0xCB#8, 0x1E#8]
  | .rrA => [0xCB#8, 0x1F#8]
  | .slaB => [0xCB#8, 0x20#8]
  | .slaC => [0xCB#8, 0x21#8]
  | .slaD => [0xCB#8, 0x22#8]
  | .slaE => [0xCB#8, 0x23#8]
  | .slaH => [0xCB#8, 0x24#8]
  | .slaL => [0xCB#8, 0x25#8]
  | .slaMHL => [0xCB#8, 0x26#8]
  | .slaA => [0xCB#8, 0x27#8]
  | .sraB => [0xCB#8, 0x28#8]
  | .sraC => [0xCB#8, 0x29#8]
  | .sraD => [0xCB#8, 0x2A#8]
  | .sraE => [0xCB#8, 0x2B#8]
  | .sraH => [0xCB#8, 0x2C#8]
  | .sraL => [0xCB#8, 0x2D#8]
  | .sraMHL => [0xCB#8, 0x2E#8]
  | .sraA => [0xCB#8, 0x2F#8]
  | .swapB => [0xCB#8, 0x30#8]
  | .swapC => [0xCB#8, 0x31#8]
  | .swapD => [0xCB#8, 0x32#8]
  | .swapE => [0xCB#8, 0x33#8]
  | .swapH => [0xCB#8, 0x34#8]
  | .swapL => [0xCB#8, 0x35#8]
  | .swapMHL => [0xCB#8, 0x36#8]
  | .swapA => [0xCB#8, 0x37#8]
  | .srlB => [0xCB#8, 0x38#8]
  | .srlC => [0xCB#8, 0x39#8]
  | .srlD => [0xCB#8, 0x3A#8]
  | .srlE => [0xCB#8, 0x3B#8]
  | .srlH => [0xCB#8, 0x3C#8]
  | .srlL => [0xCB#8, 0x3D#8]
  | .srlMHL => [0xCB#8, 0x3E#8]
  | .srlA => [0xCB#8, 0x3F#8]
  | .bit0_B => [0xCB#8, 0x40#8]
  | .bit0_C => [0xCB#8, 0x41#8]
  | .bit0_D => [0xCB#8, 0x42#8]
  | .bit0_E => [0xCB#8, 0x43#8]
  | .bit0_H => [0xCB#8, 0x44#8]
  | .bit0_L => [0xCB#8, 0x45#8]
  | .bit0_MHL => [0xCB#8, 0x46#8]
  | .bit0_A => [0xCB#8, 0x47#8]
  | .bit1_B => [0xCB#8, 0x48#8]
  | .bit1_C => [0xCB#8, 0x49#8]
  | .bit1_D => [0xCB#8, 0x4A#8]
  | .bit1_E => [0xCB#8, 0x4B#8]
  | .bit1_H => [0xCB#8, 0x4C#8]
  | .bit1_L => [0xCB#8, 0x4D#8]
  | .bit1_MHL => [0xCB#8, 0x4E#8]
  | .bit1_A => [0xCB#8, 0x4F#8]
  | .bit2_B => [0xCB#8, 0x50#8]
  | .bit2_C => [0xCB#8, 0x51#8]
  | .bit2_D => [0xCB#8, 0x52#8]
  | .bit2_E => [0xCB#8, 0x53#8]
  | .bit2_H => [0xCB#8, 0x54#8]
  | .bit2_L => [0xCB#8, 0x55#8]
  | .bit2_MHL => [0xCB#8, 0x56#8]
  | .bit2_A => [0xCB#8, 0x57#8]
  | .bit3_B => [0xCB#8, 0x58#8]
  | .bit3_C => [0xCB#8, 0x59#8]
  | .bit3_D => [0xCB#8, 0x5A#8]
  | .bit3_E => [0xCB#8, 0x5B#8]
  | .bit3_H => [0xCB#8, 0x5C#8]
  | .bit3_L => [0xCB#8, 0x5D#8]
  | .bit3_MHL => [0xCB#8, 0x5E#8]
  | .bit3_A => [0xCB#8, 0x5F#8]
  | .bit4_B => [0xCB#8, 0x60#8]
  | .bit4_C => [0xCB#8, 0x61#8]
  | .bit4_D => [0xCB#8, 0x62#8]
  | .bit4_E => [0xCB#8, 0x63#8]
  | .bit4_H => [0xCB#8, 0x64#8]
  | .bit4_L => [0xCB#8, 0x65#8]
  | .bit4_MHL => [0xCB#8, 0x66#8]
  | .bit4_A => [0xCB#8, 0x67#8]
  | .bit5_B => [0xCB#8, 0x68#8]
  | .bit5_C => [0xCB#8, 0x69#8]
  | .bit5_D => [0xCB#8, 0x6A#8]
  | .bit5_E => [0xCB#8, 0x6B#8]
  | .bit5_H => [0xCB#8, 0x6C#8]
  | .bit5_L => [0xCB#8, 0x6D#8]
  | .bit5_MHL => [0xCB#8, 0x6E#8]
  | .bit5_A => [0xCB#8, 0x6F#8]
  | .bit6_B => [0xCB#8, 0x70#8]
  | .bit6_C => [0xCB#8, 0x71#8]
  | .bit6_D => [0xCB#8, 0x72#8]
  | .bit6_E => [0xCB#8, 0x73#8]
  | .bit6_H => [0xCB#8, 0x74#8]
  | .bit6_L => [0xCB#8, 0x75#8]
  | .bit6_MHL => [0xCB#8, 0x76#8]
  | .bit6_A => [0xCB#8, 0x77#8]
  | .bit7_B => [0xCB#8, 0x78#8]
  | .bit7_C => [0xCB#8, 0x79#8]
  | .bit7_D => [0xCB#8, 0x7A#8]
  | .bit7_E => [0xCB#8, 0x7B#8]
  | .bit7_H => [0xCB#8, 0x7C#8]
  | .bit7_L => [0xCB#8, 0x7D#8]
  | .bit7_MHL => [0xCB#8, 0x7E#8]
  | .bit7_A => [0xCB#8, 0x7F#8]
  | .res0_B => [0xCB#8, 0x80#8]
  | .res0_C => [0xCB#8, 0x81#8]
  | .res0_D => [0xCB#8, 0x82#8]
  | .res0_E => [0xCB#8, 0x83#8]
  | .res0_H => [0xCB#8, 0x84#8]
  | .res0_L => [0xCB#8, 0x85#8]
  | .res0_MHL => [0xCB#8, 0x86#8]
  | .res0_A => [0xCB#8, 0x87#8]
  | .res1_B => [0xCB#8, 0x88#8]
  | .res1_C => [0xCB#8, 0x89#8]
  | .res1_D => [0xCB#8, 0x8A#8]
  | .res1_E => [0xCB#8, 0x8B#8]
  | .res1_H => [0xCB#8, 0x8C#8]
  | .res1_L => [0xCB#8, 0x8D#8]
  | .res1_MHL => [0xCB#8, 0x8E#8]
  | .res1_A => [0xCB#8, 0x8F#8]
  | .res2_B => [0xCB#8, 0x90#8]
  | .res2_C => [0xCB#8, 0x91#8]
  | .res2_D => [0xCB#8, 0x92#8]
  | .res2_E => [0xCB#8, 0x93#8]
  | .res2_H => [0xCB#8, 0x94#8]
  | .res2_L => [0xCB#8, 0x95#8]
  | .res2_MHL => [0xCB#8, 0x96#8]
  | .res2_A => [0xCB#8, 0x97#8]
  | .res3_B => [0xCB#8, 0x98#8]
  | .res3_C => [0xCB#8, 0x99#8]
  | .res3_D => [0xCB#8, 0x9A#8]
  | .res3_E => [0xCB#8, 0x9B#8]
  | .res3_H => [0xCB#8, 0x9C#8]
  | .res3_L => [0xCB#8, 0x9D#8]
  | .res3_MHL => [0xCB#8, 0x9E#8]
  | .res3_A => [0xCB#8, 0x9F#8]
  | .res4_B => [0xCB#8, 0xA0#8]
  | .res4_C => [0xCB#8, 0xA1#8]
  | .res4_D => [0xCB#8, 0xA2#8]
  | .res4_E => [0xCB#8, 0xA3#8]
  | .res4_H => [0xCB#8, 0xA4#8]
  | .res4_L => [0xCB#8, 0xA5#8]
  | .res4_MHL => [0xCB#8, 0xA6#8]
  | .res4_A => [0xCB#8, 0xA7#8]
  | .res5_B => [0xCB#8, 0xA8#8]
  | .res5_C => [0xCB#8, 0xA9#8]
  | .res5_D => [0xCB#8, 0xAA#8]
  | .res5_E => [0xCB#8, 0xAB#8]
  | .res5_H => [0xCB#8, 0xAC#8]
  | .res5_L => [0xCB#8, 0xAD#8]
  | .res5_MHL => [0xCB#8, 0xAE#8]
  | .res5_A => [0xCB#8, 0xAF#8]
  | .res6_B => [0xCB#8, 0xB0#8]
  | .res6_C => [0xCB#8, 0xB1#8]
  | .res6_D => [0xCB#8, 0xB2#8]
  | .res6_E => [0xCB#8, 0xB3#8]
  | .res6_H => [0xCB#8, 0xB4#8]
  | .res6_L => [0xCB#8, 0xB5#8]
  | .res6_MHL => [0xCB#8, 0xB6#8]
  | .res6_A => [0xCB#8, 0xB7#8]
  | .res7_B => [0xCB#8, 0xB8#8]
  | .res7_C => [0xCB#8, 0xB9#8]
  | .res7_D => [0xCB#8, 0xBA#8]
  | .res7_E => [0xCB#8, 0xBB#8]
  | .res7_H => [0xCB#8, 0xBC#8]
  | .res7_L => [0xCB#8, 0xBD#8]
  | .res7_MHL => [0xCB#8, 0xBE#8]
  | .res7_A => [0xCB#8, 0xBF#8]
  | .set0_B => [0xCB#8, 0xC0#8]
  | .set0_C => [0xCB#8, 0xC1#8]
  | .set0_D => [0xCB#8, 0xC2#8]
  | .set0_E => [0xCB#8, 0xC3#8]
  | .set0_H => [0xCB#8, 0xC4#8]
  | .set0_L => [0xCB#8, 0xC5#8]
  | .set0_MHL => [0xCB#8, 0xC6#8]
  | .set0_A => [0xCB#8, 0xC7#8]
  | .set1_B => [0xCB#8, 0xC8#8]
  | .set1_C => [0xCB#8, 0xC9#8]
  | .set1_D => [0xCB#8, 0xCA#8]
  | .set1_E => [0xCB#8, 0xCB#8]
  | .set1_H => [0xCB#8, 0xCC#8]
  | .set1_L => [0xCB#8, 0xCD#8]
  | .set1_MHL => [0xCB#8, 0xCE#8]
  | .set1_A => [0xCB#8, 0xCF#8]
  | .set2_B => [0xCB#8, 0xD0#8]
  | .set2_C => [0xCB#8, 0xD1#8]
  | .set2_D => [0xCB#8, 0xD2#8]
  | .set2_E => [0xCB#8, 0xD3#8]
  | .set2_H => [0xCB#8, 0xD4#8]
  | .set2_L => [0xCB#8, 0xD5#8]
  | .set2_MHL => [0xCB#8, 0xD6#8]
  | .set2_A => [0xCB#8, 0xD7#8]
  | .set3_B => [0xCB#8, 0xD8#8]
  | .set3_C => [0xCB#8, 0xD9#8]
  | .set3_D => [0xCB#8, 0xDA#8]
  | .set3_E => [0xCB#8, 0xDB#8]
  | .set3_H => [0xCB#8, 0xDC#8]
  | .set3_L => [0xCB#8, 0xDD#8]
  | .set3_MHL => [0xCB#8, 0xDE#8]
  | .set3_A => [0xCB#8, 0xDF#8]
  | .set4_B => [0xCB#8, 0xE0#8]
  | .set4_C => [0xCB#8, 0xE1#8]
  | .set4_D => [0xCB#8, 0xE2#8]
  | .set4_E => [0xCB#8, 0xE3#8]
  | .set4_H => [0xCB#8, 0xE4#8]
  | .set4_L => [0xCB#8, 0xE5#8]
  | .set4_MHL => [0xCB#8, 0xE6#8]
  | .set4_A => [0xCB#8, 0xE7#8]
  | .set5_B => [0xCB#8, 0xE8#8]
  | .set5_C => [0xCB#8, 0xE9#8]
  | .set5_D => [0xCB#8, 0xEA#8]
  | .set5_E => [0xCB#8, 0xEB#8]
  | .set5_H => [0xCB#8, 0xEC#8]
  | .set5_L => [0xCB#8, 0xED#8]
  | .set5_MHL => [0xCB#8, 0xEE#8]
  | .set5_A => [0xCB#8, 0xEF#8]
  | .set6_B => [0xCB#8, 0xF0#8]
  | .set6_C => [0xCB#8, 0xF1#8]
  | .set6_D => [0xCB#8, 0xF2#8]
  | .set6_E => [0xCB#8, 0xF3#8]
  | .set6_H => [0xCB#8, 0xF4#8]
  | .set6_L => [0xCB#8, 0xF5#8]
  | .set6_MHL => [0xCB#8, 0xF6#8]
  | .set6_A => [0xCB#8, 0xF7#8]
  | .set7_B => [0xCB#8, 0xF8#8]
  | .set7_C => [0xCB#8, 0xF9#8]
  | .set7_D => [0xCB#8, 0xFA#8]
  | .set7_E => [0xCB#8, 0xFB#8]
  | .set7_H => [0xCB#8, 0xFC#8]
  | .set7_L => [0xCB#8, 0xFD#8]
  | .set7_MHL => [0xCB#8, 0xFE#8]
  | .set7_A => [0xCB#8, 0xFF#8]

/-- The opcode of an instruction as a number: its first byte, or 0xCB00 plus the second byte of a secondary-page
instruction. It is the key of the cost tables (R5, R104). -/
def opcodeKey (i : Instr) : Nat :=
  match encode i with
  | b0 :: b1 :: _ => if b0 = 0xCB#8 then 0xCB00 + b1.toNat else b0.toNat
  | b0 :: [] => b0.toNat
  | [] => 0

/-- The bytes of a table word of `nbits` bits, as the hardware stores them, with zeros after it up to three bytes.
A row of 16 bits is a secondary-page row and `opcode_table.json` writes 0xCB in its HIGH byte (R103), so a 16-bit word
whose bits 15:8 are 0xCB is that pair; every other word has its first byte in bits 7:0 (log 12). -/
def tableBytes (nbits w : Nat) : Byte × Byte × Byte :=
  if nbits = 16 ∧ w / 256 % 256 = 0xCB then (0xCB#8, BitVec.ofNat 8 w, 0#8)
  else
    let v := w % 2 ^ nbits
    (BitVec.ofNat 8 v, BitVec.ofNat 8 (v / 256), BitVec.ofNat 8 (v / 65536))

/-- The instruction the decoder reads from a table word (the fixed name of the host's interface). -/
def decodeTableWord (nbits w : Nat) : Option Instr :=
  let t := tableBytes nbits w
  match decode [t.1, t.2.1, t.2.2] with
  | .ok (i, _) => some i
  | .error _ => none

end Sys2Proof
end

