-- ==== Sys2Proof/Config.lean ====
section
/-! DEFINITION. What the hardware fixes (sizes, addresses, counts), the launch parameters of R5 as plain
data with the spec's defaults, and the one free value of the model. -/

namespace Sys2Proof.Config

/-- Ticks of one scanline (R320). -/
def lineTicks : Nat := 456

/-- Bytes of one OAM DMA block (R4). -/
def dmaBytes : Nat := 160

/-- Cycles from the DMA trigger to the copy (R287). -/
def dmaCycles : Nat := 160

/-- Cycles the step after an interrupt dispatch pays on top of its instruction (R261). -/
def dispatchPenalty : Nat := 5

/-- The byte a read returns when no device answers, "open bus" (R9, R50). -/
def openBus : Byte := 0xFF#8

/-- FREE VALUE (log 14). The byte a video RAM read past address 0x9FFF returns. The spec's window map formula
(R336, R340) reaches such an address only when the window line counter has passed 255, or on a screen thousands of columns
wide (log 21), and says nothing of it. -/
opaque beyondVram : Nat → Byte

end Sys2Proof.Config

namespace Sys2Proof

/-- One row of the cost table parameter `COST`/`UNDEF_COST` (R5, R104): `key` is the opcode (0x00 to 0xFF, or
0xCB00 plus the second byte), `base` its static cost, `taken` the total when a conditional transfer is taken. -/
structure CostRow where
  key : Nat
  base : Nat
  taken : Nat
  deriving DecidableEq, Repr

/-- The framebuffer dimensions of R5: `w` is `SCREEN_W`, the columns of a line, `h` is `SCREEN_H`, the lines the
framebuffer holds (D32). Which scanlines are visible is no parameter: R4 fixes lines 0 to 143 (log 21). -/
structure Screen where
  w : Nat
  h : Nat
  deriving DecidableEq, Repr

/-- The launch parameters of R5, as plain data that no step changes (log 1). The cartridge image `ROM` is in
`Cart` and `INIT_MEM` is the memory a launch is given. -/
structure Params where
  /-- `TICK_SCALE`: timer and PPU ticks per reported CPU cycle (D1). -/
  tickScale : Nat
  /-- `DIV_SHIFT`: the `DIV` register reads `divider[DIV_SHIFT+7:DIV_SHIFT]` (D20). -/
  divShift : Nat
  /-- `ECHO_MAP`: the echo addresses whose work-RAM offset departs from the textbook mirror, with that offset (D16; log 3). -/
  echo : List (Nat × Nat)
  /-- `COST` and `UNDEF_COST`: the opcodes whose cost departs from the spec's default (D10, D11; log 2). -/
  cost : List CostRow
  /-- `SCREEN_W` and `SCREEN_H` (D32). -/
  screen : Screen
  deriving DecidableEq, Repr

/-- The default column of R5. -/
def Params.default : Params := { tickScale := 4, divShift := 6, echo := [], cost := [], screen := { w := 160, h := 144 } }

end Sys2Proof
end

