-- ==== Sys2Proof/Machine/Memory.lean ====
section
/-! DEFINITION. Sparse storage: a list of (key, value) pairs in one canonical form, keys strictly rising and no
entry equal to what an unlisted key reads as. `Memory` is such a list of bytes by address (`Host.Cell`). Reading and
writing obey their laws on every list; writing keeps the canonical form (`Laws/Memory.lean`). -/

namespace Sys2Proof

/-- Sparse storage of `w`-bit values by natural key. -/
abbrev Sparse (w : Nat) := List (Nat × BitVec w)

/-- Byte storage by address or offset. -/
abbrev Memory := List Host.Cell

/-- What a key that is not listed reads as: the model's instance of `INIT_MEM` (R5, R31; DESIGN CHOICE, log 5). -/
def unlisted (w : Nat) : BitVec w := 0#w

namespace Sparse

/-- The value at key `k`. -/
def read {w : Nat} : Sparse w → Nat → BitVec w
  | [], _ => unlisted w
  | c :: r, k => if c.1 = k then c.2 else read r k

/-- The storage without key `k`. -/
def erase {w : Nat} (m : Sparse w) (k : Nat) : Sparse w := m.filter (fun c => c.1 != k)

/-- Insert a pair before the first larger key. -/
def insert {w : Nat} : Sparse w → Nat → BitVec w → Sparse w
  | [], k, v => [(k, v)]
  | c :: r, k, v => if k < c.1 then (k, v) :: c :: r else c :: insert r k v

/-- Store `v` at key `k`; storing what an unlisted key reads as removes the entry. -/
def write {w : Nat} (m : Sparse w) (k : Nat) (v : BitVec w) : Sparse w :=
  if v = unlisted w then erase m k else insert (erase m k) k v

/-- The canonical form, decided: every key above `lo` and rising, no value that an unlisted key reads as. -/
def wfFrom {w : Nat} : Nat → Sparse w → Bool
  | _, [] => true
  | lo, c :: r => decide (lo ≤ c.1) && c.2 != unlisted w && wfFrom (c.1 + 1) r

/-- The canonical form: keys strictly rising, no entry equal to what an unlisted key reads as. -/
def wf {w : Nat} (m : Sparse w) : Bool := wfFrom 0 m

/-- The storage that holds the values of `vs` from key `k` on. -/
def ofList {w : Nat} : Nat → List (BitVec w) → Sparse w
  | _, [] => []
  | k, v :: r => if v = unlisted w then ofList (k + 1) r else (k, v) :: ofList (k + 1) r

end Sparse

/-- The canonical form of a memory (the fixed name of the model's interface). -/
def Memory.wf (m : Memory) : Bool := Sparse.wf (w := 8) m

/-- The byte at an address. -/
def Memory.read (m : Memory) (a : Nat) : Byte := Sparse.read (w := 8) m a

/-- Store a byte at an address. -/
def Memory.write (m : Memory) (a : Nat) (v : Byte) : Memory := Sparse.write (w := 8) m a v

/-- An image given as a list of bytes, the first at offset 0. -/
def Memory.ofBytes (bs : List Byte) : Memory := Sparse.ofList (w := 8) 0 bs

end Sys2Proof
end

