-- ==== Sys2Proof/Machine/State.lean ====
section
/-! DEFINITION. The machine context (`10_state.md`) as plain data, its reset value (R30, R31), and the reasons a
step can stop. -/

namespace Sys2Proof.Machine

/-- The run mode (R17): two reachable values. -/
inductive RunMode where
  | running
  | halted
  deriving DecidableEq, Repr

/-- CpuState: R10 to R18. -/
structure Cpu where
  a : Byte
  /-- The flag register: Z N HF CF in bits 7 6 5 4, bits 3:0 zero (R12, R13). -/
  f : Byte
  b : Byte
  c : Byte
  d : Byte
  e : Byte
  h : Byte
  l : Byte
  sp : Word
  pc : Word
  /-- Interrupt master enable (R16). -/
  ime : Bool
  mode : RunMode
  /-- "interrupt was serviced this step" (R18, R261). -/
  serviced : Bool
  deriving DecidableEq, Repr

/-- InterruptState (R18, R271): `IE` and `IF`. -/
structure Irq where
  ie : Byte
  /-- The pending-request mask `IF`. -/
  ifr : Byte
  deriving DecidableEq, Repr

/-- TimerState (R19). -/
structure Timer where
  divider : BitVec 14
  tima : Byte
  tma : Byte
  tac : Byte
  deriving DecidableEq, Repr

/-- The modes of the OAM DMA sequencer (R20). -/
inductive DmaMode where
  | off
  | waiting
  | transferring
  deriving DecidableEq, Repr

/-- DmaState (R20). -/
structure Dma where
  mode : DmaMode
  elapsed : Nat
  source : Word
  deriving DecidableEq, Repr

/-- The eight button states, `true` when pressed (R21, R291). -/
structure Buttons where
  right : Bool
  left : Bool
  up : Bool
  down : Bool
  a : Bool
  b : Bool
  select : Bool
  start : Bool
  deriving DecidableEq, Repr

/-- No button pressed. -/
def Buttons.released : Buttons := ⟨false, false, false, false, false, false, false, false⟩

/-- JoypadState (R21). The selector bits hold the bit as the program wrote it: `false` selects the group. -/
structure Joypad where
  selDpad : Bool
  selBtn : Bool
  held : Buttons
  deriving DecidableEq, Repr

/-- One selected sprite descriptor `(y, x, tile, attr)` (R23, R338). -/
structure Sprite where
  y : Byte
  x : Byte
  tile : Byte
  attr : Byte
  deriving DecidableEq, Repr

/-- PpuState (R22, R23). -/
structure Ppu where
  lcdc : Byte
  stat : Byte
  scy : Byte
  scx : Byte
  ly : Byte
  lyc : Byte
  bgp : Byte
  obp0 : Byte
  obp1 : Byte
  wy : Byte
  wx : Byte
  /-- Intra-line tick counter. -/
  ticks : Nat
  /-- The sprites selected for the current line, highest priority first. -/
  sprites : List Sprite
  winInFrame : Bool
  winLine : Nat
  frameReady : Bool
  /-- The stored previous value of the STAT interrupt line (R332). -/
  statLine : Bool
  /-- Background/window colour index of each column of the line last rendered. -/
  bgidx : Sparse 2
  /-- The framebuffer: the shade of column `x` of line `y` at key `x + y * SCREEN_W` (R23, R344). -/
  fb : Sparse 2
  deriving DecidableEq, Repr

/-- MBC1-style registers (R25, R74). -/
structure Mbc1 where
  romBank : BitVec 5
  ramBank : BitVec 2
  bankMode : BitVec 1
  ramEnable : Bool
  deriving DecidableEq, Repr

/-- MBC3-style registers (R25, R76). -/
structure Mbc3 where
  romBank : BitVec 7
  ramBank : Byte
  ramEnable : Bool
  deriving DecidableEq, Repr

/-- The bank controller, by the kind the header selects (R25, R71). -/
inductive Controller where
  | none
  | mbc1 (r : Mbc1)
  | mbc3 (r : Mbc3)
  deriving DecidableEq, Repr

/-- CartridgeState (R25): the image, the decoded header, the bank controller and the external RAM buffer. -/
structure Cart where
  rom : Memory
  title : List Byte
  bankCount : Nat
  ramSize : Nat
  ctrl : Controller
  xram : Memory
  deriving DecidableEq, Repr

/-- The machine context. `ram` holds `vram`, `wram`, `oam`, `unused` and `hram` (R24), each byte at its own bus
address. `cost` and `cycles` are what the last instruction and the last step reported (log 11); `params` are the
launch parameters of R5 (log 1). -/
structure State where
  cpu : Cpu
  irq : Irq
  timer : Timer
  dma : Dma
  joypad : Joypad
  ppu : Ppu
  ram : Memory
  cart : Cart
  cost : Nat
  cycles : Nat
  params : Params
  deriving DecidableEq, Repr

/-- The faults of the hardware: none. This hardware raises no synchronous exception (R270), so no step answers a
fault, which is safe: nothing is left out by it. -/
inductive Fault where
  deriving DecidableEq, Repr

/-- The points where the spec gives no successor state (R270) and the launch refusals. Each is safe: the model stops
where it says nothing. -/
inductive Refusal where
  /-- Raised by `exec` for an instruction without a meaning; no arm uses it. Safe. -/
  | notModelled (mnemonic : String)
  /-- Raised by a bus access to external RAM whose offset is not below `ram_size` (R75, R77). Safe. -/
  | xramOutOfRange
  /-- Raised by a bus read of ROM whose MBC3 bank offset is not below `rom_size` (R77). Safe. -/
  | romOutOfRange
  /-- Raised by `launch` for a controller type outside the supported set (R71). Safe. -/
  | unsupportedCartridge
  /-- Raised by `launch` for an image that breaks a launch premise of R70 or R71. Safe. -/
  | malformedCartridge
  deriving DecidableEq, Repr

/-- What a step or an instruction answers. -/
abbrev Out := Host.Outcome State Fault Refusal

/-- The CPU registers after reset (R30; `IME`, mode and `serviced` R31). -/
def Cpu.reset : Cpu :=
  { a := 0x01, f := 0x80, b := 0x00, c := 0x13, d := 0x00, e := 0xD8, h := 0x01, l := 0x4D
    sp := 0xFFFE, pc := 0x0100, ime := false, mode := .running, serviced := false }

/-- `IE` and `IF` after reset (R30). -/
def Irq.reset : Irq := { ie := 0x00, ifr := 0xE1 }

/-- The timer after reset (`divider` R30, the rest R31). -/
def Timer.reset : Timer := { divider := 0xAB, tima := 0x00, tma := 0x00, tac := 0x00 }

/-- The DMA sequencer after reset (R31). -/
def Dma.reset : Dma := { mode := .off, elapsed := 0, source := 0x0000 }

/-- The joypad after reset (buttons R30, selectors R31). -/
def Joypad.reset : Joypad := { selDpad := true, selBtn := true, held := Buttons.released }

/-- The PPU after reset (`LCDC`, `STAT`, sprites and window counters R30, the rest R31). -/
def Ppu.reset : Ppu :=
  { lcdc := 0x91, stat := 0x85, scy := 0x00, scx := 0x00, ly := 0x00, lyc := 0x00, bgp := 0x00, obp0 := 0x00
    obp1 := 0x00, wy := 0x00, wx := 0x00, ticks := 0, sprites := [], winInFrame := false, winLine := 0
    frameReady := false, statLine := false, bgidx := [], fb := [] }

/-- The MBC1-style registers after reset (R31). -/
def Mbc1.reset : Mbc1 := { romBank := 1, ramBank := 0, bankMode := 0, ramEnable := false }

/-- The MBC3-style registers after reset (R31). -/
def Mbc3.reset : Mbc3 := { romBank := 1, ramBank := 0, ramEnable := false }

/-- No image loaded: a blank 32 KiB cartridge of kind none (DESIGN CHOICE, log 6; `launch` puts the real one here). -/
def Cart.blank : Cart := { rom := [], title := [], bankCount := 2, ramSize := 0, ctrl := .none, xram := [] }

/-- The machine right after reset (R30, R31, R380, R381), with no cartridge image placed. -/
def State.reset : State :=
  { cpu := Cpu.reset, irq := Irq.reset, timer := Timer.reset, dma := Dma.reset, joypad := Joypad.reset
    ppu := Ppu.reset, ram := [], cart := Cart.blank, cost := 0, cycles := 0, params := Params.default }

end Sys2Proof.Machine
end

