-- ==== Sys2Proof/Machine/Cartridge.lean ====
section
/-! DEFINITION. The cartridge and its bank controllers (R70 to R78): kind none, MBC1-style, MBC3-style. -/

namespace Sys2Proof.Machine

/-- `rom_size`: `bank_count` banks of 16 KiB (R70). -/
def Cart.romSize (c : Cart) : Nat := c.bankCount * 0x4000

/-- A bank register of value 0 behaves as bank 1 (R25). -/
def bankOf (b : Nat) : Nat := if b = 0 then 1 else b

/-- The image offset of address `a` in 0x0000 to 0x7FFF with bank `b` in the window (R73, R77). -/
def romOffset (b a : Nat) : Nat := if a < 0x4000 then a else bankOf b * 0x4000 + (a - 0x4000)

/-- A bus read of 0x0000 to 0x7FFF (R72, R73, R77). -/
def Cart.romRead (c : Cart) (a : Nat) : Except Refusal Byte :=
  match c.ctrl with
  | .none => .ok (c.rom.read a)
  | .mbc1 r => .ok (c.rom.read (romOffset r.romBank.toNat a))
  | .mbc3 r =>
    if a < 0x4000 ∨ romOffset r.romBank.toNat a < c.romSize then .ok (c.rom.read (romOffset r.romBank.toNat a))
    else .error .romOutOfRange

/-- `MASK(bank_count)` (R74): 2 banks 1 bit, one more bit per doubling, at most 5 bits. -/
def bankMask (bankCount : Nat) : Byte :=
  match bankCount with
  | 2 => 0x01#8 | 4 => 0x03#8 | 8 => 0x07#8 | 16 => 0x0F#8 | _ => 0x1F#8

/-- The RAM enable latch for a written value (R74, R76). -/
def ramEnableOf (v : Byte) : Bool := v &&& 0x0F#8 == 0x0A#8

/-- An MBC1-style register write of `v` to `a` in 0x0000 to 0x7FFF (R74). -/
def Mbc1.write (r : Mbc1) (bankCount a : Nat) (v : Byte) : Mbc1 :=
  if a < 0x2000 then { r with ramEnable := ramEnableOf v }
  else if a < 0x4000 then
    { r with romBank := BitVec.ofNat 5 (bankOf ((v &&& 0x1F#8) &&& bankMask bankCount).toNat) }
  else if a < 0x6000 then { r with ramBank := v.extractLsb' 0 2 }
  else { r with bankMode := v.extractLsb' 0 1 }

/-- An MBC3-style register write of `v` to `a` in 0x0000 to 0x7FFF (R76). -/
def Mbc3.write (r : Mbc3) (a : Nat) (v : Byte) : Mbc3 :=
  if a < 0x2000 then { r with ramEnable := ramEnableOf v }
  else if a < 0x4000 then { r with romBank := BitVec.ofNat 7 (bankOf (v &&& 0x7F#8).toNat) }
  else if a < 0x6000 then { r with ramBank := v }
  else r

/-- A bus write of 0x0000 to 0x7FFF (R72, R74, R76): it never changes the image. -/
def Cart.romWrite (c : Cart) (a : Nat) (v : Byte) : Cart :=
  match c.ctrl with
  | .none => c
  | .mbc1 r => { c with ctrl := .mbc1 (r.write c.bankCount a v) }
  | .mbc3 r => { c with ctrl := .mbc3 (r.write a v) }

/-- The bank of external RAM an access to 0xA000 to 0xBFFF reaches, if the cartridge answers it: it has external RAM
(R78), and its controller has the RAM enabled (R75, R77). -/
def Cart.ramBankOpen (c : Cart) : Option Nat :=
  if c.ramSize = 0 then none
  else
    match c.ctrl with
    | .none => none
    | .mbc1 r => if r.ramEnable then some r.ramBank.toNat else none
    | .mbc3 r => if r.ramEnable then some r.ramBank.toNat else none

/-- A bus read of 0xA000 to 0xBFFF (R75, R77, R78). -/
def Cart.xramRead (c : Cart) (a : Nat) : Except Refusal Byte :=
  match c.ramBankOpen with
  | none => .ok Config.openBus
  | some b =>
    if b * 0x2000 + (a - 0xA000) < c.ramSize then .ok (c.xram.read (b * 0x2000 + (a - 0xA000)))
    else .error .xramOutOfRange

/-- A bus write of 0xA000 to 0xBFFF (R75, R77, R78). -/
def Cart.xramWrite (c : Cart) (a : Nat) (v : Byte) : Except Refusal Cart :=
  match c.ramBankOpen with
  | none => .ok c
  | some b =>
    if b * 0x2000 + (a - 0xA000) < c.ramSize then
      .ok { c with xram := c.xram.write (b * 0x2000 + (a - 0xA000)) v }
    else .error .xramOutOfRange

end Sys2Proof.Machine
end

