-- ==== Sys2Proof/Machine/Joypad.lean ====
section
/-! DEFINITION. The joypad latch (R291 to R294). -/

namespace Sys2Proof.Machine

/-- Four button states as bits 3:0, `k` the state at bit `k`. -/
def nibble (b0 b1 b2 b3 : Bool) : BitVec 4 :=
  (BitVec.ofBool b3 ++ BitVec.ofBool b2 ++ BitVec.ofBool b1 ++ BitVec.ofBool b0 : BitVec 4)

/-- The D-pad group, 1 for pressed: right, left, up, down in bits 0 to 3 (R291). -/
def Buttons.dpad (h : Buttons) : BitVec 4 := nibble h.right h.left h.up h.down

/-- The button group, 1 for pressed: A, B, select, start in bits 0 to 3 (R291). -/
def Buttons.action (h : Buttons) : BitVec 4 := nibble h.a h.b h.select h.start

/-- The read value of `P1` (R292). -/
def Joypad.read (j : Joypad) : Byte :=
  if j.selDpad && j.selBtn then 0xFF#8
  else
    let pressed := (if j.selDpad then 0#4 else j.held.dpad) ||| (if j.selBtn then 0#4 else j.held.action)
    (3#2 ++ BitVec.ofBool j.selBtn ++ BitVec.ofBool j.selDpad ++ ~~~pressed : BitVec 8)

/-- A write of `P1` (R293). -/
def Joypad.write (j : Joypad) (v : Byte) : Joypad := { j with selDpad := v.getLsbD 4, selBtn := v.getLsbD 5 }

/-- Some button is released in `old` and pressed in `new` (R294). -/
def Buttons.newPress (old new : Buttons) : Bool :=
  (!old.right && new.right) || (!old.left && new.left) || (!old.up && new.up) || (!old.down && new.down) ||
  (!old.a && new.a) || (!old.b && new.b) || (!old.select && new.select) || (!old.start && new.start)

end Sys2Proof.Machine
end

