-- ==== Sys2Proof/Machine/Timer.lean ====
section
/-! DEFINITION. The interrupt sources (R274) and the timer (R280 to R284). -/

namespace Sys2Proof.Machine

/-- The five interrupt sources, in priority order (R274, R275). -/
inductive Source where
  | vblank | lcdStatus | timer | serial | joypad
  deriving DecidableEq, Repr

/-- The bit of a source in `IE` and `IF` (R18, R274). -/
def Source.bit : Source → Nat
  | .vblank => 0 | .lcdStatus => 1 | .timer => 2 | .serial => 3 | .joypad => 4

/-- The vector of a source (R274): `0x0040 + 8 * i` (R273). -/
def Source.vector (i : Source) : Word := BitVec.ofNat 16 (0x40 + 8 * i.bit)

/-- The mask of a source's bit. -/
def Source.mask (i : Source) : Byte := 1#8 <<< i.bit

/-- `Request(i)` (R7). -/
def Irq.request (q : Irq) (i : Source) : Irq := { q with ifr := q.ifr ||| i.mask }

/-- `Request(i)` on the machine, when `b` holds. -/
def State.requestIf (s : State) (i : Source) (b : Bool) : State := if b then { s with irq := s.irq.request i } else s

/-- `TAC[2]`, the enable bit (R280). -/
def Timer.enabled (t : Timer) : Bool := t.tac.getLsbD 2

/-- `THRESH`, selected by `TAC[1:0]` (R280). -/
def Timer.threshold (t : Timer) : Nat :=
  match t.tac.toNat % 4 with
  | 0 => 1024 | 1 => 16 | 2 => 64 | _ => 256

/-- The `TIMA` increment (R282); `true` when it requests the timer interrupt. -/
def Timer.increment (t : Timer) : Timer × Bool :=
  if t.tima = 0xFF#8 then ({ t with tima := t.tma }, true) else ({ t with tima := t.tima + 1#8 }, false)

/-- `TimerTick(n)` (R281); `true` when it requests the timer interrupt. -/
def Timer.tick (t : Timer) (n : Nat) : Timer × Bool :=
  let d := t.divider + BitVec.ofNat 14 n
  if t.enabled && decide (t.threshold ≤ d.toNat) then
    Timer.increment { t with divider := d - BitVec.ofNat 14 t.threshold }
  else ({ t with divider := d }, false)

/-- `TimerTick(n)` on the machine. -/
def State.timerTick (s : State) (n : Nat) : State :=
  let r := s.timer.tick n
  { s with timer := r.1 }.requestIf .timer r.2

/-- The `DIV` register's read value (R283). -/
def Timer.div (t : Timer) (shift : Nat) : Byte := BitVec.ofNat 8 (t.divider.toNat >>> shift)

end Sys2Proof.Machine
end

