-- ==== Sys2Proof/Machine/Ppu.lean ====
section
/-! DEFINITION. The pixel-processing unit (`61_ppu.md`): the STAT line (R332), sprite selection (R338), the three
rendering passes (R339 to R344), the tick (R325 to R329) and the register writes (R350 to R354). The PPU reads `vram` and
`oam` directly (R345): they are in `State.ram` at their bus addresses. -/

namespace Sys2Proof.Machine

/-- The four modes (R321). -/
inductive PpuMode where
  | hblank | vblank | oamScan | drawing
  deriving DecidableEq, Repr

/-- The encoding of a mode in `STAT[1:0]` (R22, R321). -/
def PpuMode.bits : PpuMode → Byte
  | .hblank => 0#8 | .vblank => 1#8 | .oamScan => 2#8 | .drawing => 3#8

/-- The current mode, `STAT[1:0]` (R321). -/
def Ppu.mode (p : Ppu) : PpuMode :=
  match p.stat.toNat % 4 with
  | 0 => .hblank | 1 => .vblank | 2 => .oamScan | _ => .drawing

/-- `mode <- m`. -/
def Ppu.setMode (p : Ppu) (m : PpuMode) : Ppu := { p with stat := (p.stat &&& 0xFC#8) ||| m.bits }

/-- The composite STAT signal (R332). -/
def Ppu.statSignal (p : Ppu) : Bool :=
  (p.stat.getLsbD 3 && p.mode == .hblank) || (p.stat.getLsbD 4 && p.mode == .vblank) ||
  (p.stat.getLsbD 5 && p.mode == .oamScan) || (p.stat.getLsbD 6 && p.ly == p.lyc)

/-- `StatEval()` (R332); `true` when it requests the lcd-status interrupt. -/
def Ppu.statEval (p : Ppu) : Ppu × Bool :=
  ({ p with
     stat := if p.ly = p.lyc then p.stat ||| 0x04#8 else p.stat &&& 0xFB#8
     statLine := p.statSignal }, p.statSignal && !p.statLine)

/-- `StatEval()` on the machine. -/
def State.statEval (s : State) : State :=
  let r := s.ppu.statEval
  { s with ppu := r.1 }.requestIf .lcdStatus r.2

/-- The video RAM byte at a bus address (R335, R336); past 0x9FFF it is a free value (log 14). -/
def vramByte (ram : Memory) (a : Nat) : Byte := if a < 0xA000 then ram.read a else Config.beyondVram a

/-- `TilePixel(a, r, c)` (R335). -/
def tilePixel (ram : Memory) (a r c : Nat) : BitVec 2 :=
  BitVec.ofBool ((vramByte ram (a + 2 * r + 1)).getLsbD (7 - c)) ++ BitVec.ofBool ((vramByte ram (a + 2 * r)).getLsbD (7 - c))

/-- `BgTileAddr(t)` (R335). -/
def bgTileAddr (lcdc : Byte) (t : Nat) : Nat :=
  if lcdc.getLsbD 4 then 0x8000 + 16 * t else if t < 128 then 0x9000 + 16 * t else 0x8000 + 16 * t

/-- `MapTile(base, row, col)` (R336). -/
def mapTile (ram : Memory) (base row col : Nat) : Nat := (vramByte ram (base + 32 * (row / 8) + col / 8)).toNat

/-- The background map base (R336). -/
def bgMapBase (lcdc : Byte) : Nat := if lcdc.getLsbD 3 then 0x9C00 else 0x9800

/-- The window map base (R336). -/
def windowMapBase (lcdc : Byte) : Nat := if lcdc.getLsbD 6 then 0x9C00 else 0x9800

/-- `Shade(pal, idx)` (R344). -/
def shade (pal : Byte) (idx : BitVec 2) : BitVec 2 := (pal >>> (2 * idx.toNat)).extractLsb' 0 2

/-- The framebuffer key of column `x` of line `ly`, "column + line * screenWidth" (R23, R344). -/
def fbKey (d : Screen) (ly x : Nat) : Nat := x + ly * d.w

/-- `fb[x + ly * SCREEN_W] <- v` (R340, R342, R343). The framebuffer has `SCREEN_H` lines (R23): a line past them has no
entry to write (log 21). -/
def Ppu.paint (p : Ppu) (d : Screen) (ly x : Nat) (v : BitVec 2) : Ppu :=
  { p with fb := if ly < d.h then p.fb.write (fbKey d ly x) v else p.fb }

/-- The sprite height (R338). -/
def spriteHeight (lcdc : Byte) : Nat := if lcdc.getLsbD 2 then 16 else 8

/-- OAM entry `i` (R338). -/
def oamEntry (ram : Memory) (i : Nat) : Sprite :=
  { y := ram.read (0xFE00 + 4 * i), x := ram.read (0xFE01 + 4 * i)
    tile := ram.read (0xFE02 + 4 * i), attr := ram.read (0xFE03 + 4 * i) }

/-- The Y range of a sprite of height `h` covers line `ly` (R338). -/
def Sprite.covers (o : Sprite) (h ly : Nat) : Bool := decide (o.y.toNat ≤ ly + 16) && decide (ly + 16 < o.y.toNat + h)

/-- Insert into a list sorted by X, before every entry with the same or a larger X: inserting from the last table entry
to the first keeps table order among equals (the stable sort of R338). -/
def insertByX (o : Sprite) : List Sprite → List Sprite
  | [] => [o]
  | q :: r => if o.x.toNat ≤ q.x.toNat then o :: q :: r else q :: insertByX o r

/-- Stable sort by ascending X (R338). -/
def sortByX (l : List Sprite) : List Sprite := l.foldr insertByX []

/-- The sprites that cover line `ly`: the first ten in table order, then sorted by X (R338). -/
def selectedSprites (ram : Memory) (lcdc : Byte) (ly : Nat) : List Sprite :=
  sortByX ((((List.range 40).map (oamEntry ram)).filter (fun o => o.covers (spriteHeight lcdc) ly)).take 10)

/-- `SelectSprites(ly)` (R338). -/
def Ppu.selectSprites (p : Ppu) (ram : Memory) (ly : Nat) : Ppu := { p with sprites := selectedSprites ram p.lcdc ly }

/-- Give column `x` of line `ly` its background or window colour index and shade (R340, R342). -/
def Ppu.plot (p : Ppu) (d : Screen) (ly x : Nat) (idx : BitVec 2) : Ppu :=
  { p with bgidx := p.bgidx.write x idx }.paint d ly x (shade p.bgp idx)

/-- The window reaches column `x`: `WX - 7 <= x` (R340). -/
def Ppu.windowReaches (p : Ppu) (x : Nat) : Bool := decide (p.wx.toNat ≤ x + 7)

/-- The window's colour index at column `x` (R340). -/
def Ppu.windowPixel (p : Ppu) (ram : Memory) (x : Nat) : BitVec 2 :=
  let wcol := x + 7 - p.wx.toNat
  tilePixel ram (bgTileAddr p.lcdc (mapTile ram (windowMapBase p.lcdc) p.winLine wcol)) (p.winLine % 8) (wcol % 8)

/-- The background's colour index at column `x` of line `ly` (R342). -/
def Ppu.backgroundPixel (p : Ppu) (ram : Memory) (ly x : Nat) : BitVec 2 :=
  let px := (x + p.scx.toNat) % 256
  let py := (ly + p.scy.toNat) % 256
  tilePixel ram (bgTileAddr p.lcdc (mapTile ram (bgMapBase p.lcdc) py px)) (py % 8) (px % 8)

/-- The latch of the window frame flag (R340, R341). -/
def Ppu.latchWindow (p : Ppu) (ly : Nat) : Ppu := if ly = p.wy.toNat then { p with winInFrame := true } else p

/-- `win_draw` (R340): enabled, active in this frame, left edge `WX - 7` not past the last column. -/
def Ppu.windowDraws (p : Ppu) (d : Screen) : Bool :=
  p.lcdc.getLsbD 5 && p.winInFrame && decide (p.wx.toNat < d.w + 7)

/-- The window pass (R340, R341): the window's columns, then the line counter. -/
def Ppu.windowPass (p : Ppu) (d : Screen) (ram : Memory) (ly : Nat) : Ppu :=
  if p.windowDraws d then
    let q := ((List.range d.w).filter p.windowReaches).foldl (fun q x => q.plot d ly x (p.windowPixel ram x)) p
    { q with winLine := p.winLine + 1 }
  else p

/-- The background pass (R342): every column the window pass of `p` did not write. -/
def Ppu.backgroundPass (q p : Ppu) (d : Screen) (ram : Memory) (ly : Nat) : Ppu :=
  ((List.range d.w).filter (fun x => !(p.windowDraws d && p.windowReaches x))).foldl
    (fun q x => q.plot d ly x (p.backgroundPixel ram ly x)) q

/-- The row of a sprite that line `ly` shows, after the vertical flip (R343). -/
def Sprite.row (o : Sprite) (h ly : Nat) : Nat :=
  let row := ly + 16 - o.y.toNat
  if o.attr.getLsbD 6 then h - 1 - row else row

/-- The tile a sprite row is in (R343). -/
def Sprite.tileAt (o : Sprite) (h row : Nat) : Nat :=
  if h = 8 then o.tile.toNat else (o.tile &&& 0xFE#8).toNat ||| (row / 8)

/-- Pixel `c` of a sprite on line `ly` (R343): column, transparency, priority, palette. -/
def Ppu.spritePixel (p : Ppu) (d : Screen) (ram : Memory) (ly : Nat) (o : Sprite) (c : Nat) : Ppu :=
  let h := spriteHeight p.lcdc
  let row := o.row h ly
  let sx := o.x.toNat + c - 8
  let idx := tilePixel ram (0x8000 + 16 * o.tileAt h row) (row % 8) (if o.attr.getLsbD 5 then 7 - c else c)
  if o.x.toNat + c < 8 ∨ d.w ≤ sx then p
  else if idx = 0#2 then p
  else if o.attr.getLsbD 7 && p.bgidx.read sx != 0#2 then p
  else p.paint d ly sx (shade (if o.attr.getLsbD 4 then p.obp1 else p.obp0) idx)

/-- The sprite pass (R343): lowest priority first. -/
def Ppu.spritePass (p : Ppu) (d : Screen) (ram : Memory) (ly : Nat) : Ppu :=
  if p.lcdc.getLsbD 1 then
    p.sprites.reverse.foldl (fun q o => (List.range 8).foldl (fun q c => q.spritePixel d ram ly o c) q) p
  else p

/-- `RenderLine(ly)` (R339): window, background, sprites. -/
def Ppu.renderLine (p : Ppu) (d : Screen) (ram : Memory) (ly : Nat) : Ppu :=
  let p1 := p.latchWindow ly
  ((p1.windowPass d ram ly).backgroundPass p1 d ram ly).spritePass d ram ly

/-- `VBlankEntry()` (R328), less its interrupt request. -/
def Ppu.vblankEntry (p : Ppu) : Ppu :=
  { p.setMode .vblank with frameReady := true, winInFrame := false, winLine := 0 }

/-- The line rollover (R327), the tick counter already reduced; `true` when it requests the vblank interrupt. -/
def Ppu.rollover (p : Ppu) (d : Screen) (ram : Memory) : Ppu × Bool :=
  let ly : Byte := if p.ly = 153#8 then 0#8 else p.ly + 1#8
  let p1 := { p with ly := ly }
  if ly = 144#8 then (p1.vblankEntry, true)
  else if ly.toNat < 144 then (((p1.selectSprites ram ly.toNat).renderLine d ram ly.toNat).setMode .hblank, false)
  else (p1, false)

/-- The mode inside a visible line, by the tick counter (R326). -/
def modeAt (ticks : Nat) : PpuMode := if ticks ≤ 80 then .oamScan else if ticks ≤ 252 then .drawing else .hblank

/-- `PpuTick(n)` less its `StatEval` (R325, R329); `true` when it requests the vblank interrupt. -/
def Ppu.advance (p : Ppu) (d : Screen) (ram : Memory) (n : Nat) : Ppu × Bool :=
  if p.lcdc.getLsbD 7 then
    let t := p.ticks + n
    if Config.lineTicks < t then Ppu.rollover { p with ticks := t - Config.lineTicks } d ram
    else if p.ly.toNat < 144 then ({ p with ticks := t }.setMode (modeAt t), false)
    else ({ p with ticks := t }, false)
  else (p, false)

/-- `PpuTick(n)` (R325). -/
def State.ppuTick (s : State) (n : Nat) : State :=
  let r := s.ppu.advance s.params.screen s.ram n
  ({ s with ppu := r.1 }.requestIf .vblank r.2).statEval

/-- A write of `LCDC` (R350), less its `StatEval`. -/
def Ppu.writeLcdc (p : Ppu) (v : Byte) : Ppu :=
  if v.getLsbD 7 then { p with lcdc := v } else { p with lcdc := v, ly := 0#8, ticks := 0 }.setMode .hblank

/-- A write of `STAT` (R351), less its `StatEval`: bits 7:3 only. -/
def Ppu.writeStat (p : Ppu) (v : Byte) : Ppu := { p with stat := (v &&& 0xF8#8) ||| (p.stat &&& 0x07#8) }

end Sys2Proof.Machine
end

