-- ==== Sys2Proof/Machine/Bus.lean ====
section
/-! DEFINITION. The bus (R40 to R51): the nine regions and 0xFFFF, the I/O registers by exact address match, and the two
byte operations `MemRead` and `MemWrite`. -/

namespace Sys2Proof.Machine

/-- The regions of R43, in its order, and the interrupt enable register at 0xFFFF. -/
inductive Region where
  | rom | vram | xram | wram | echo | oam | unused | io | hram | ie
  deriving DecidableEq, Repr

/-- The region of an address (R43). -/
def regionOf (a : Word) : Region :=
  let n := a.toNat
  if n < 0x8000 then .rom
  else if n < 0xA000 then .vram
  else if n < 0xC000 then .xram
  else if n < 0xE000 then .wram
  else if n < 0xFE00 then .echo
  else if n < 0xFEA0 then .oam
  else if n < 0xFF00 then .unused
  else if n < 0xFF80 then .io
  else if n < 0xFFFF then .hram
  else .ie

/-- `ECHO_MAP(addr)` (R45): the parameter's value, by default the textbook mirror `addr - 0xE000`. -/
def Params.echoOffset (p : Params) (a : Nat) : Nat := ((p.echo.lookup a).getD (a - 0xE000)) % 0x2000

/-- The home of a RAM address: itself, but for echo RAM its work-RAM location (R45). -/
def ramHome (p : Params) (a : Word) : Nat :=
  match regionOf a with
  | .echo => 0xC000 + Params.echoOffset p a.toNat
  | _ => a.toNat

/-- The I/O registers (R51). -/
inductive IoReg where
  | p1 | div | tima | tma | tac | ifr | lcdc | stat | scy | scx | ly | lyc | dma | bgp | obp0 | obp1 | wy | wx
  deriving DecidableEq, Repr

/-- The register map (R51). -/
def ioMap : List (Nat × IoReg) :=
  [(0xFF00, .p1), (0xFF04, .div), (0xFF05, .tima), (0xFF06, .tma), (0xFF07, .tac), (0xFF0F, .ifr),
   (0xFF40, .lcdc), (0xFF41, .stat), (0xFF42, .scy), (0xFF43, .scx), (0xFF44, .ly), (0xFF45, .lyc),
   (0xFF46, .dma), (0xFF47, .bgp), (0xFF48, .obp0), (0xFF49, .obp1), (0xFF4A, .wy), (0xFF4B, .wx)]

/-- The register at an I/O address, if one is there (R50). -/
def ioRegAt (a : Word) : Option IoReg := ioMap.lookup a.toNat

/-- The read value of a register (R271, R283, R284, R286, R292, R350 to R354). -/
def State.readIo (s : State) : IoReg → Byte
  | .p1 => s.joypad.read
  | .div => s.timer.div s.params.divShift
  | .tima => s.timer.tima
  | .tma => s.timer.tma
  | .tac => s.timer.tac
  | .ifr => s.irq.ifr
  | .lcdc => s.ppu.lcdc
  | .stat => s.ppu.stat
  | .scy => s.ppu.scy
  | .scx => s.ppu.scx
  | .ly => s.ppu.ly
  | .lyc => s.ppu.lyc
  | .dma => hiByte s.dma.source
  | .bgp => s.ppu.bgp
  | .obp0 => s.ppu.obp0
  | .obp1 => s.ppu.obp1
  | .wy => s.ppu.wy
  | .wx => s.ppu.wx

/-- A write of a PPU register, then `StatEval` (R333). -/
def State.writePpu (s : State) (p : Ppu) : State := { s with ppu := p }.statEval

/-- The trigger of the OAM DMA sequencer (R286). -/
def dmaTrigger (v : Byte) : Dma := { mode := .waiting, elapsed := 0, source := word v 0#8 }

/-- A write of a register (R271, R283, R284, R286, R293, R350 to R354); `LY` drops it (R353). -/
def State.writeIo (s : State) (r : IoReg) (v : Byte) : State :=
  match r with
  | .p1 => { s with joypad := s.joypad.write v }
  | .div => { s with timer := { s.timer with divider := 0 } }
  | .tima => { s with timer := { s.timer with tima := v } }
  | .tma => { s with timer := { s.timer with tma := v } }
  | .tac => { s with timer := { s.timer with tac := v } }
  | .ifr => { s with irq := { s.irq with ifr := v } }
  | .lcdc => s.writePpu (s.ppu.writeLcdc v)
  | .stat => s.writePpu (s.ppu.writeStat v)
  | .scy => s.writePpu { s.ppu with scy := v }
  | .scx => s.writePpu { s.ppu with scx := v }
  | .ly => s.writePpu s.ppu
  | .lyc => s.writePpu { s.ppu with lyc := v }
  | .dma => { s with dma := dmaTrigger v }
  | .bgp => s.writePpu { s.ppu with bgp := v }
  | .obp0 => s.writePpu { s.ppu with obp0 := v }
  | .obp1 => s.writePpu { s.ppu with obp1 := v }
  | .wy => s.writePpu { s.ppu with wy := v }
  | .wx => s.writePpu { s.ppu with wx := v }

/-- `MemRead(addr, 1)` (R41). It changes no state. -/
def memRead (s : State) (a : Word) : Except Refusal Byte :=
  match regionOf a with
  | .rom => s.cart.romRead a.toNat
  | .xram => s.cart.xramRead a.toNat
  | .io =>
    match ioRegAt a with
    | some r => .ok (s.readIo r)
    | none => .ok Config.openBus
  | .ie => .ok s.irq.ie
  | .vram | .wram | .echo | .oam | .unused | .hram => .ok (s.ram.read (ramHome s.params a))

/-- `MemWrite(addr, 1, v)` (R42). -/
def memWrite (s : State) (a : Word) (v : Byte) : Except Refusal State :=
  match regionOf a with
  | .rom => .ok { s with cart := s.cart.romWrite a.toNat v }
  | .xram =>
    match s.cart.xramWrite a.toNat v with
    | .ok c => .ok { s with cart := c }
    | .error r => .error r
  | .io =>
    match ioRegAt a with
    | some r => .ok (s.writeIo r v)
    | none => .ok s
  | .ie => .ok { s with irq := { s.irq with ie := v } }
  | .vram | .wram | .echo | .oam | .unused | .hram => .ok { s with ram := s.ram.write (ramHome s.params a) v }

end Sys2Proof.Machine
end

