-- ==== Sys2Proof/Machine/Registers.lean ====
section
/-! DEFINITION. Access to the CPU's registers, pairs, flags and conditions (R7, R10 to R15). Every read and write of a
register goes through these. -/

namespace Sys2Proof.Machine

/-- `x[i]` (R7). -/
def Cpu.reg (p : Cpu) : Reg → Byte
  | .b => p.b | .c => p.c | .d => p.d | .e => p.e | .h => p.h | .l => p.l | .a => p.a

/-- `x[i] <- v` (R7). -/
def Cpu.setReg (p : Cpu) (r : Reg) (v : Byte) : Cpu :=
  match r with
  | .b => { p with b := v } | .c => { p with c := v } | .d => { p with d := v } | .e => { p with e := v }
  | .h => { p with h := v } | .l => { p with l := v } | .a => { p with a := v }

/-- `rr[p]` (R7, R11). -/
def Cpu.pair (p : Cpu) : Pair → Word
  | .bc => word p.b p.c | .de => word p.d p.e | .hl => word p.h p.l | .sp => p.sp

/-- `rr[p] <- v` (R7, R11). -/
def Cpu.setPair (p : Cpu) (r : Pair) (v : Word) : Cpu :=
  match r with
  | .bc => { p with b := hiByte v, c := loByte v }
  | .de => { p with d := hiByte v, e := loByte v }
  | .hl => { p with h := hiByte v, l := loByte v }
  | .sp => { p with sp := v }

/-- `rs[p]` (R7). `F[3:0]` is always 0 (R13), whatever `f` holds there. -/
def Cpu.stackPair (p : Cpu) : StackPair → Word
  | .bc => word p.b p.c | .de => word p.d p.e | .hl => word p.h p.l | .af => word p.a (p.f &&& 0xF0#8)

/-- `rs[p] <- v` (R7); a write of `F` stores `v & 0xF0` (R13, R144). -/
def Cpu.setStackPair (p : Cpu) (r : StackPair) (v : Word) : Cpu :=
  match r with
  | .bc => { p with b := hiByte v, c := loByte v }
  | .de => { p with d := hiByte v, e := loByte v }
  | .hl => { p with h := hiByte v, l := loByte v }
  | .af => { p with a := hiByte v, f := loByte v &&& 0xF0#8 }

/-- The four flags (R12). -/
structure Flags where
  z : Bool
  n : Bool
  h : Bool
  c : Bool
  deriving DecidableEq, Repr

/-- The flag register that holds these flags: `Z N HF CF` in bits 7 6 5 4, bits 3:0 zero (R12, R13). -/
def Flags.pack (g : Flags) : Byte :=
  (BitVec.ofBool g.z ++ BitVec.ofBool g.n ++ BitVec.ofBool g.h ++ BitVec.ofBool g.c ++ 0#4 : BitVec 8)

/-- The flags as the CPU holds them (R12). -/
def Cpu.flags (p : Cpu) : Flags := ⟨p.f.getLsbD 7, p.f.getLsbD 6, p.f.getLsbD 5, p.f.getLsbD 4⟩

/-- Write all four flags. -/
def Cpu.setFlags (p : Cpu) (g : Flags) : Cpu := { p with f := g.pack }

/-- Condition `cc[c]` (R7). -/
def Cpu.holds (p : Cpu) : Cond → Bool
  | .nz => !p.flags.z | .z => p.flags.z | .nc => !p.flags.c | .c => p.flags.c

/-- The machine with other CPU registers. -/
def State.withCpu (s : State) (p : Cpu) : State := { s with cpu := p }

/-- `x[i] <- v` on the machine. -/
def State.setReg (s : State) (r : Reg) (v : Byte) : State := s.withCpu (s.cpu.setReg r v)

/-- `rr[p] <- v` on the machine. -/
def State.setPair (s : State) (r : Pair) (v : Word) : State := s.withCpu (s.cpu.setPair r v)

/-- `rs[p] <- v` on the machine. -/
def State.setStackPair (s : State) (r : StackPair) (v : Word) : State := s.withCpu (s.cpu.setStackPair r v)

/-- Write all four flags. -/
def State.setFlags (s : State) (g : Flags) : State := s.withCpu (s.cpu.setFlags g)

/-- `pc <- target` (R7). -/
def State.setPc (s : State) (v : Word) : State := s.withCpu { s.cpu with pc := v }

/-- `SP <- v`. -/
def State.setSp (s : State) (v : Word) : State := s.withCpu { s.cpu with sp := v }

/-- `IME <- v` (R16). -/
def State.setIme (s : State) (v : Bool) : State := s.withCpu { s.cpu with ime := v }

/-- Enter a run mode (R17). -/
def State.setMode (s : State) (m : RunMode) : State := s.withCpu { s.cpu with mode := m }

/-- Write the `serviced` flag (R18). -/
def State.setServiced (s : State) (v : Bool) : State := s.withCpu { s.cpu with serviced := v }

end Sys2Proof.Machine
end

