-- ==== Sys2Proof/Machine/Ops.lean ====
section
/-! DEFINITION. The shared operations of the instructions (R7): continuing after a bus access, 16-bit memory access, the
stack, the reported cost, taking an interrupt (R272, R273) and returning from one (R234). -/

namespace Sys2Proof.Machine

/-- Go on with the result of a bus access; a refused access refuses the step. -/
def onOk {α : Type} (e : Except Refusal α) (k : α → Out) : Out :=
  match e with
  | .ok x => k x
  | .error r => .refused r

/-- Go on with the next state of an outcome. -/
def thenDo (o : Out) (k : State → Out) : Out :=
  match o with
  | .next s => k s
  | .fault f => .fault f
  | .refused r => .refused r

/-- The cost a launch parameter gives an opcode, else the default of its rule (R5, R104). -/
def Params.baseCost (p : Params) (key dflt : Nat) : Nat :=
  match p.cost.find? (fun r => r.key == key) with
  | some r => r.base
  | none => dflt

/-- The cost of a taken conditional transfer (R104). -/
def Params.takenCost (p : Params) (key dflt : Nat) : Nat :=
  match p.cost.find? (fun r => r.key == key) with
  | some r => r.taken
  | none => dflt

/-- `cost <- n` (R7), `n` the default of opcode `key`. -/
def State.charge (s : State) (key n : Nat) : State := { s with cost := Params.baseCost s.params key n }

/-- `cost <- n` for a taken conditional transfer. -/
def State.chargeTaken (s : State) (key n : Nat) : State := { s with cost := Params.takenCost s.params key n }

/-- The instruction is complete: `cost <- n`. -/
def done (s : State) (key n : Nat) : Out := .next (s.charge key n)

/-- `Fetch8()` (R7). -/
def fetch8 (s : State) : Except Refusal (Byte × State) :=
  match memRead s s.cpu.pc with
  | .ok v => .ok (v, s.setPc (s.cpu.pc + 1#16))
  | .error r => .error r

/-- Push one byte: `SP <- SP - 1`, then the write. -/
def push8 (s : State) (v : Byte) : Except Refusal State :=
  memWrite (s.setSp (s.cpu.sp - 1#16)) (s.cpu.sp - 1#16) v

/-- `Push16(v)` (R7): the high byte, then the low byte. -/
def push16 (s : State) (v : Word) : Except Refusal State :=
  match push8 s (hiByte v) with
  | .ok t => push8 t (loByte v)
  | .error r => .error r

/-- Pop one byte: the read, then `SP <- SP + 1`. -/
def pop8 (s : State) : Except Refusal (Byte × State) :=
  match memRead s s.cpu.sp with
  | .ok v => .ok (v, s.setSp (s.cpu.sp + 1#16))
  | .error r => .error r

/-- `Pop16()` (R7): the low byte, then the high byte. -/
def pop16 (s : State) : Except Refusal (Word × State) :=
  match pop8 s with
  | .ok (lo, t) =>
    match pop8 t with
    | .ok (hi, u) => .ok (word hi lo, u)
    | .error r => .error r
  | .error r => .error r

/-- Two byte writes of a word, low byte first (R80, R141). -/
def memWrite16 (s : State) (a : Word) (v : Word) : Except Refusal State :=
  match memWrite s a (loByte v) with
  | .ok t => memWrite t (a + 1#16) (hiByte v)
  | .error r => .error r

/-- `pend`: the enabled pending requests among the five sources (R272). -/
def Irq.pend (q : Irq) : Byte := q.ie &&& q.ifr &&& 0x1F#8

/-- The least `i` with `pend[i] = 1` (R273, R275). -/
def firstSource (pend : Byte) : Option Source :=
  if pend.getLsbD 0 then some .vblank
  else if pend.getLsbD 1 then some .lcdStatus
  else if pend.getLsbD 2 then some .timer
  else if pend.getLsbD 3 then some .serial
  else if pend.getLsbD 4 then some .joypad
  else none

/-- Clear one request bit of `IF`. -/
def Irq.clear (q : Irq) (i : Source) : Irq := { q with ifr := q.ifr &&& ~~~i.mask }

/-- Taking an interrupt (R273), this hardware's only trap entry: `IME` off, `PC` pushed, the request bit cleared in the
`IF` current after the push, `PC` at the vector, `serviced` set. -/
def takeInterrupt (i : Source) (s : State) : Out :=
  onOk (push16 (s.setIme false) s.cpu.pc) fun t =>
    .next (({ t with irq := t.irq.clear i }.setPc i.vector).setServiced true)

/-- Returning from an interrupt (R234, R276): `PC` popped, `IME` on. -/
def returnFromInterrupt (s : State) : Except Refusal State :=
  match pop16 s with
  | .ok (v, t) => .ok ((t.setPc v).setIme true)
  | .error r => .error r

/-- Wake from halt (R272): any enabled pending request, whatever `IME`. -/
def State.wake (s : State) : State :=
  if s.cpu.mode = .halted ∧ s.irq.pend ≠ 0#8 then s.setMode .running else s

/-- The interrupt half of a step (R272, R273), with `pend` as it is when the half begins. -/
def interruptHalf (s : State) : Out :=
  if s.cpu.ime then
    match firstSource s.irq.pend with
    | some i => takeInterrupt i s.wake
    | none => .next s.wake
  else .next s.wake

end Sys2Proof.Machine
end

