-- ==== Sys2Proof/Machine/Cycle.lean ====
section
/-! DEFINITION. What a step does around its instruction (R261): the dispatch penalty at its start, and at its end the
timer, the OAM DMA sequencer (R287, R288) and the PPU, then the interrupt half. -/

namespace Sys2Proof.Machine

/-- The bus address of the `i`-th source byte of a DMA copy (R288). -/
def dmaAddr (s : State) (i : Nat) : Word := s.dma.source + BitVec.ofNat 16 i

/-- `oam[i] <- v`, not through the bus (R288). -/
def State.setOam (s : State) (i : Nat) (v : Byte) : State := { s with ram := s.ram.write (0xFE00 + i) v }

/-- The copy of R288 for the indices of `l`, in order: each byte is read through the bus when it is copied. -/
def dmaCopy : List Nat → State → Except Refusal State
  | [], s => .ok s
  | i :: l, s =>
    match memRead s (dmaAddr s i) with
    | .ok v => dmaCopy l (s.setOam i v)
    | .error r => .error r

/-- `DmaTick(c)` (R287). -/
def dmaTick (s : State) (c : Nat) : Except Refusal State :=
  match s.dma.mode with
  | .off => .ok s
  | m =>
    let e := s.dma.elapsed + c
    let m' := if m = .waiting ∧ e < 1 then DmaMode.waiting else .transferring
    let t : State := { s with dma := { s.dma with elapsed := e, mode := m' } }
    if m' = .transferring ∧ Config.dmaCycles ≤ e then
      match dmaCopy (List.range Config.dmaBytes) t with
      | .ok u => .ok { u with dma := { u.dma with mode := .off } }
      | .error r => .error r
    else .ok t

/-- The penalty of the step (R261 (a)). -/
def penalty (s : State) : Nat := if s.cpu.serviced then Config.dispatchPenalty else 0

/-- The start of a step: the `serviced` flag is used up (R261 (a)). -/
def beginStep (s : State) : State := s.setServiced false

/-- The three time-driven subsystems advance by `c` cycles, in the order timer, DMA, PPU (R261 (e)). -/
def advanceDevices (s : State) (c : Nat) : Except Refusal State :=
  match dmaTick (s.timerTick (s.params.tickScale * c)) c with
  | .ok t => .ok (t.ppuTick (t.params.tickScale * c))
  | .error r => .error r

/-- The end of a step (R261 (d) to (f)): the reported cost plus the penalty advances the devices and is the value the
step returns, then the interrupt half runs. -/
def finishStep (pen : Nat) (s : State) : Out :=
  let c := s.cost + pen
  onOk (advanceDevices { s with cycles := c } c) interruptHalf

end Sys2Proof.Machine
end

