-- ==== Sys2Proof/Machine/Flags.lean ====
section
/-! DEFINITION. Every result and flag computation of the instruction set: pure functions of the operands and the old
flags, computed over unbounded integers and narrowed at the end (R155 to R173, R190 to R194, R200 to R215). -/

namespace Sys2Proof.Machine

/-- `add8(a, b, cin)` (R155). -/
def add8 (a b : Byte) (cin : Bool) : Byte × Flags :=
  let s := a.toNat + b.toNat + carryIn cin
  let r : Byte := BitVec.ofNat 8 s
  let c := chain a.toNat b.toNat s
  (r, { z := r == 0#8, n := false, h := c.testBit 4, c := c.testBit 8 })

/-- `sub8(a, b, cin)` (R155): the difference modulo 512. -/
def sub8 (a b : Byte) (cin : Bool) : Byte × Flags :=
  let s := (a.toNat + 512 - b.toNat - carryIn cin) % 512
  let r : Byte := BitVec.ofNat 8 s
  let c := chain a.toNat b.toNat s
  (r, { z := r == 0#8, n := true, h := c.testBit 4, c := c.testBit 8 })

/-- The result and flags of a logic operation with constant `N`, `HF`, `CF` (R161 to R163). -/
def logic8 (r : Byte) (h : Bool) : Byte × Flags := (r, { z := r == 0#8, n := false, h := h, c := false })

/-- The eight accumulator operations (R157 to R164) on `a`, `b` and the old `CF`. The result of `CP` is the old `a`. -/
def alu8 (op : AluOp) (a b : Byte) (cf : Bool) : Byte × Flags :=
  match op with
  | .add => add8 a b false
  | .adc => add8 a b cf
  | .sub => sub8 a b false
  | .sbc => sub8 a b cf
  | .and => logic8 (a &&& b) true
  | .xor => logic8 (a ^^^ b) false
  | .or => logic8 (a ||| b) false
  | .cp => (a, (sub8 a b false).2)

/-- Increment of a byte (R165): `CF` is kept. -/
def inc8 (v : Byte) (g : Flags) : Byte × Flags :=
  let r := v + 1#8
  (r, { z := r == 0#8, n := false, h := v &&& 0x0F#8 == 0x0F#8, c := g.c })

/-- Decrement of a byte (R167): `CF` is kept. -/
def dec8 (v : Byte) (g : Flags) : Byte × Flags :=
  let r := v - 1#8
  (r, { z := r == 0#8, n := true, h := v &&& 0x0F#8 == 0x00#8, c := g.c })

/-- `DAA` (R169): `N` is kept, all tests are on the old `A` and flags. -/
def daa8 (a : Byte) (g : Flags) : Byte × Flags :=
  let low := g.h || (!g.n && decide (0x09 < a.toNat % 16))
  let high := g.c || (!g.n && decide (0x99 < a.toNat))
  let adj : Byte := (if low then 0x06#8 else 0#8) ||| (if high then 0x60#8 else 0#8)
  let r := if g.n then a - adj else a + adj
  (r, { z := r == 0#8, n := g.n, h := false, c := high })

/-- `ADD HL,rr` (R190): half-carry at bit 12, carry at bit 16, `Z` kept. -/
def addHL (a b : Word) (g : Flags) : Word × Flags :=
  let s := a.toNat + b.toNat
  let c := chain a.toNat b.toNat s
  (BitVec.ofNat 16 s, { z := g.z, n := false, h := c.testBit 12, c := c.testBit 16 })

/-- `SP` plus a signed byte (R193, R194): half-carry at bit 4, carry at bit 8, `Z` and `N` cleared. -/
def addOffset (a : Word) (e : Byte) : Word × Flags :=
  let b := (sext16 e).toNat
  let s := a.toNat + b
  let c := chain a.toNat b s
  (BitVec.ofNat 16 s, { z := false, n := false, h := c.testBit 4, c := c.testBit 8 })

/-- The rotates and shifts (R205 to R212) on `v` and the old `CF`: the result and the new `CF`. -/
def rotate8 (op : RotOp) (v : Byte) (cf : Bool) : Byte × Bool :=
  let low : Byte := if cf then 0x01#8 else 0#8
  match op with
  | .rlc => ((v <<< 1) ||| (v >>> 7), v.getLsbD 7)
  | .rrc => ((v >>> 1) ||| (v <<< 7), v.getLsbD 0)
  | .rl => ((v <<< 1) ||| low, v.getLsbD 7)
  | .rr => ((v >>> 1) ||| (low <<< 7), v.getLsbD 0)
  | .sla => (v <<< 1, v.getLsbD 7)
  | .sra => ((v >>> 1) ||| (v &&& 0x80#8), v.getLsbD 0)
  | .swap => ((v <<< 4) ||| (v >>> 4), false)
  | .srl => (v >>> 1, v.getLsbD 0)

/-- `RES n,r` (R214). -/
def clearBit (n : BitNo) (v : Byte) : Byte := v &&& ~~~(1#8 <<< n.toNat)

/-- `SET n,r` (R215). -/
def setBit (n : BitNo) (v : Byte) : Byte := v ||| (1#8 <<< n.toNat)

end Sys2Proof.Machine
end

