-- ==== Sys2Proof/Machine/Operands.lean ====
section
/-! DEFINITION. The operand forms (R93, R156, R204): an 8-bit source, and the operand of the secondary page. -/

namespace Sys2Proof.Machine

/-- Read an 8-bit source operand (R156): a register, the byte at `HL`, or an immediate. -/
def readSource (s : State) : Source8 → Except Refusal Byte
  | .reg r => .ok (s.cpu.reg r)
  | .mem => memRead s (s.cpu.pair .hl)
  | .imm d => .ok d

/-- Read a secondary-page operand (R204). -/
def readOperand (s : State) : Operand8 → Except Refusal Byte
  | .reg r => .ok (s.cpu.reg r)
  | .mem => memRead s (s.cpu.pair .hl)

/-- Write a secondary-page operand back (R204). -/
def writeOperand (s : State) (o : Operand8) (v : Byte) : Except Refusal State :=
  match o with
  | .reg r => .ok (s.setReg r v)
  | .mem => memWrite s (s.cpu.pair .hl) v

/-- The operand `r[z]` a three-bit field names (R93). -/
def operandAt (z : Nat) : Operand8 :=
  match z with
  | 0 => .reg .b | 1 => .reg .c | 2 => .reg .d | 3 => .reg .e | 4 => .reg .h | 5 => .reg .l | 6 => .mem | _ => .reg .a

/-- The rotate or shift `rot[y]` a three-bit field names (R93). -/
def rotAt (y : Nat) : RotOp :=
  match y with
  | 0 => .rlc | 1 => .rrc | 2 => .rl | 3 => .rr | 4 => .sla | 5 => .sra | 6 => .swap | _ => .srl

/-- The bit number a three-bit field names (R92). -/
def bitNoAt (y : Nat) : BitNo :=
  match y with
  | 0 => .n0 | 1 => .n1 | 2 => .n2 | 3 => .n3 | 4 => .n4 | 5 => .n5 | 6 => .n6 | _ => .n7

end Sys2Proof.Machine
end

