-- ==== Sys2Proof/Machine/Alu16.lean ====
section
/-! DEFINITION. The meanings of 16-bit arithmetic (`43_alu16.md` R190 to R194). The fetch is over: `PC` points past the instruction. -/

namespace Sys2Proof.Machine

/-- `ADD HL,rr` (R190). -/
def addToHL (key : Nat) (p : Pair) (s : State) : Out :=
  let r := addHL (s.cpu.pair .hl) (s.cpu.pair p) s.cpu.flags
  done ((s.setPair .hl r.1).setFlags r.2) key 2

/-- `INC rr` (R191). -/
def incPair (key : Nat) (p : Pair) (s : State) : Out := done (s.setPair p (s.cpu.pair p + 1#16)) key 2

/-- `DEC rr` (R192). -/
def decPair (key : Nat) (p : Pair) (s : State) : Out := done (s.setPair p (s.cpu.pair p - 1#16)) key 2

/-- `ADD SP,e8` (R193). -/
def addToSP (key : Nat) (e : Byte) (s : State) : Out :=
  let r := addOffset s.cpu.sp e
  done ((s.setSp r.1).setFlags r.2) key 4

/-- `LD HL,SP+e8` (R194). -/
def loadHLFromSP (key : Nat) (e : Byte) (s : State) : Out :=
  let r := addOffset s.cpu.sp e
  done ((s.setPair .hl r.1).setFlags r.2) key 3

/-- `INC BC` (R191). -/
def execIncBC (s : State) : Out := incPair 0x03 .bc s

/-- `ADD HL,BC` (R190). -/
def execAddHL_BC (s : State) : Out := addToHL 0x09 .bc s

/-- `DEC BC` (R192). -/
def execDecBC (s : State) : Out := decPair 0x0B .bc s

/-- `INC DE` (R191). -/
def execIncDE (s : State) : Out := incPair 0x13 .de s

/-- `ADD HL,DE` (R190). -/
def execAddHL_DE (s : State) : Out := addToHL 0x19 .de s

/-- `DEC DE` (R192). -/
def execDecDE (s : State) : Out := decPair 0x1B .de s

/-- `INC HL` (R191). -/
def execIncHL (s : State) : Out := incPair 0x23 .hl s

/-- `ADD HL,HL` (R190). -/
def execAddHL_HL (s : State) : Out := addToHL 0x29 .hl s

/-- `DEC HL` (R192). -/
def execDecHL (s : State) : Out := decPair 0x2B .hl s

/-- `INC SP` (R191). -/
def execIncSP (s : State) : Out := incPair 0x33 .sp s

/-- `ADD HL,SP` (R190). -/
def execAddHL_SP (s : State) : Out := addToHL 0x39 .sp s

/-- `DEC SP` (R192). -/
def execDecSP (s : State) : Out := decPair 0x3B .sp s

/-- `ADD SP,e8` (R193). -/
def execAddSP_e8 (e : Byte) (s : State) : Out := addToSP 0xE8 e s

/-- `LD HL,SP+e8` (R194). -/
def execLdHL_SPe8 (e : Byte) (s : State) : Out := loadHLFromSP 0xF8 e s

end Sys2Proof.Machine
end

