-- ==== Sys2Proof/Machine/Alu8.lean ====
section
/-! DEFINITION. The meanings of 8-bit arithmetic and logic (`42_alu8.md` R155 to R172). The fetch is over: `PC` points past the instruction. -/

namespace Sys2Proof.Machine

/-- An accumulator operation on a source operand (R156 to R164). -/
def aluA (key n : Nat) (op : AluOp) (src : Source8) (s : State) : Out :=
  onOk (readSource s src) fun v =>
    let r := alu8 op s.cpu.a v s.cpu.flags.c
    done ((s.setReg .a r.1).setFlags r.2) key n

/-- `INC r` (R165). -/
def incReg (key : Nat) (y : Reg) (s : State) : Out :=
  let r := inc8 (s.cpu.reg y) s.cpu.flags
  done ((s.setReg y r.1).setFlags r.2) key 1

/-- `DEC r` (R167). -/
def decReg (key : Nat) (y : Reg) (s : State) : Out :=
  let r := dec8 (s.cpu.reg y) s.cpu.flags
  done ((s.setReg y r.1).setFlags r.2) key 1

/-- `INC (HL)` (R166). -/
def incMem (key : Nat) (s : State) : Out :=
  onOk (memRead s (s.cpu.pair .hl)) fun v =>
    let r := inc8 v s.cpu.flags
    onOk (memWrite s (s.cpu.pair .hl) r.1) fun t => done (t.setFlags r.2) key 3

/-- `DEC (HL)` (R168). -/
def decMem (key : Nat) (s : State) : Out :=
  onOk (memRead s (s.cpu.pair .hl)) fun v =>
    let r := dec8 v s.cpu.flags
    onOk (memWrite s (s.cpu.pair .hl) r.1) fun t => done (t.setFlags r.2) key 3

/-- `DAA` (R169). -/
def decimalAdjust (key : Nat) (s : State) : Out :=
  let r := daa8 s.cpu.a s.cpu.flags
  done ((s.setReg .a r.1).setFlags r.2) key 1

/-- `CPL` (R170): `Z` and `CF` kept. -/
def complementA (key : Nat) (s : State) : Out :=
  done ((s.setReg .a (~~~s.cpu.a)).setFlags { s.cpu.flags with n := true, h := true }) key 1

/-- `SCF` (R171): `Z` kept. -/
def setCarry (key : Nat) (s : State) : Out :=
  done (s.setFlags { z := s.cpu.flags.z, n := false, h := false, c := true }) key 1

/-- `CCF` (R172): `Z` kept. -/
def complementCarry (key : Nat) (s : State) : Out :=
  done (s.setFlags { z := s.cpu.flags.z, n := false, h := false, c := !s.cpu.flags.c }) key 1

/-- `INC B` (R165). -/
def execIncB (s : State) : Out := incReg 0x04 .b s

/-- `DEC B` (R167). -/
def execDecB (s : State) : Out := decReg 0x05 .b s

/-- `INC C` (R165). -/
def execIncC (s : State) : Out := incReg 0x0C .c s

/-- `DEC C` (R167). -/
def execDecC (s : State) : Out := decReg 0x0D .c s

/-- `INC D` (R165). -/
def execIncD (s : State) : Out := incReg 0x14 .d s

/-- `DEC D` (R167). -/
def execDecD (s : State) : Out := decReg 0x15 .d s

/-- `INC E` (R165). -/
def execIncE (s : State) : Out := incReg 0x1C .e s

/-- `DEC E` (R167). -/
def execDecE (s : State) : Out := decReg 0x1D .e s

/-- `INC H` (R165). -/
def execIncH (s : State) : Out := incReg 0x24 .h s

/-- `DEC H` (R167). -/
def execDecH (s : State) : Out := decReg 0x25 .h s

/-- `DAA` (R169). -/
def execDaa (s : State) : Out := decimalAdjust 0x27 s

/-- `INC L` (R165). -/
def execIncL (s : State) : Out := incReg 0x2C .l s

/-- `DEC L` (R167). -/
def execDecL (s : State) : Out := decReg 0x2D .l s

/-- `CPL` (R170). -/
def execCpl (s : State) : Out := complementA 0x2F s

/-- `INC (HL)` (R166). -/
def execIncMHL (s : State) : Out := incMem 0x34 s

/-- `DEC (HL)` (R168). -/
def execDecMHL (s : State) : Out := decMem 0x35 s

/-- `SCF` (R171). -/
def execScf (s : State) : Out := setCarry 0x37 s

/-- `INC A` (R165). -/
def execIncA (s : State) : Out := incReg 0x3C .a s

/-- `DEC A` (R167). -/
def execDecA (s : State) : Out := decReg 0x3D .a s

/-- `CCF` (R172). -/
def execCcf (s : State) : Out := complementCarry 0x3F s

/-- `ADD A,B` (R157). -/
def execAddA_B (s : State) : Out := aluA 0x80 1 .add (.reg .b) s

/-- `ADD A,C` (R157). -/
def execAddA_C (s : State) : Out := aluA 0x81 1 .add (.reg .c) s

/-- `ADD A,D` (R157). -/
def execAddA_D (s : State) : Out := aluA 0x82 1 .add (.reg .d) s

/-- `ADD A,E` (R157). -/
def execAddA_E (s : State) : Out := aluA 0x83 1 .add (.reg .e) s

/-- `ADD A,H` (R157). -/
def execAddA_H (s : State) : Out := aluA 0x84 1 .add (.reg .h) s

/-- `ADD A,L` (R157). -/
def execAddA_L (s : State) : Out := aluA 0x85 1 .add (.reg .l) s

/-- `ADD A,(HL)` (R157). -/
def execAddA_MHL (s : State) : Out := aluA 0x86 2 .add .mem s

/-- `ADD A,A` (R157). -/
def execAddA_A (s : State) : Out := aluA 0x87 1 .add (.reg .a) s

/-- `ADC A,B` (R158). -/
def execAdcA_B (s : State) : Out := aluA 0x88 1 .adc (.reg .b) s

/-- `ADC A,C` (R158). -/
def execAdcA_C (s : State) : Out := aluA 0x89 1 .adc (.reg .c) s

/-- `ADC A,D` (R158). -/
def execAdcA_D (s : State) : Out := aluA 0x8A 1 .adc (.reg .d) s

/-- `ADC A,E` (R158). -/
def execAdcA_E (s : State) : Out := aluA 0x8B 1 .adc (.reg .e) s

/-- `ADC A,H` (R158). -/
def execAdcA_H (s : State) : Out := aluA 0x8C 1 .adc (.reg .h) s

/-- `ADC A,L` (R158). -/
def execAdcA_L (s : State) : Out := aluA 0x8D 1 .adc (.reg .l) s

/-- `ADC A,(HL)` (R158). -/
def execAdcA_MHL (s : State) : Out := aluA 0x8E 2 .adc .mem s

/-- `ADC A,A` (R158). -/
def execAdcA_A (s : State) : Out := aluA 0x8F 1 .adc (.reg .a) s

/-- `SUB A,B` (R159). -/
def execSubA_B (s : State) : Out := aluA 0x90 1 .sub (.reg .b) s

/-- `SUB A,C` (R159). -/
def execSubA_C (s : State) : Out := aluA 0x91 1 .sub (.reg .c) s

/-- `SUB A,D` (R159). -/
def execSubA_D (s : State) : Out := aluA 0x92 1 .sub (.reg .d) s

/-- `SUB A,E` (R159). -/
def execSubA_E (s : State) : Out := aluA 0x93 1 .sub (.reg .e) s

/-- `SUB A,H` (R159). -/
def execSubA_H (s : State) : Out := aluA 0x94 1 .sub (.reg .h) s

/-- `SUB A,L` (R159). -/
def execSubA_L (s : State) : Out := aluA 0x95 1 .sub (.reg .l) s

/-- `SUB A,(HL)` (R159). -/
def execSubA_MHL (s : State) : Out := aluA 0x96 2 .sub .mem s

/-- `SUB A,A` (R159). -/
def execSubA_A (s : State) : Out := aluA 0x97 1 .sub (.reg .a) s

/-- `SBC A,B` (R160). -/
def execSbcA_B (s : State) : Out := aluA 0x98 1 .sbc (.reg .b) s

/-- `SBC A,C` (R160). -/
def execSbcA_C (s : State) : Out := aluA 0x99 1 .sbc (.reg .c) s

/-- `SBC A,D` (R160). -/
def execSbcA_D (s : State) : Out := aluA 0x9A 1 .sbc (.reg .d) s

/-- `SBC A,E` (R160). -/
def execSbcA_E (s : State) : Out := aluA 0x9B 1 .sbc (.reg .e) s

/-- `SBC A,H` (R160). -/
def execSbcA_H (s : State) : Out := aluA 0x9C 1 .sbc (.reg .h) s

/-- `SBC A,L` (R160). -/
def execSbcA_L (s : State) : Out := aluA 0x9D 1 .sbc (.reg .l) s

/-- `SBC A,(HL)` (R160). -/
def execSbcA_MHL (s : State) : Out := aluA 0x9E 2 .sbc .mem s

/-- `SBC A,A` (R160). -/
def execSbcA_A (s : State) : Out := aluA 0x9F 1 .sbc (.reg .a) s

/-- `AND A,B` (R161). -/
def execAndA_B (s : State) : Out := aluA 0xA0 1 .and (.reg .b) s

/-- `AND A,C` (R161). -/
def execAndA_C (s : State) : Out := aluA 0xA1 1 .and (.reg .c) s

/-- `AND A,D` (R161). -/
def execAndA_D (s : State) : Out := aluA 0xA2 1 .and (.reg .d) s

/-- `AND A,E` (R161). -/
def execAndA_E (s : State) : Out := aluA 0xA3 1 .and (.reg .e) s

/-- `AND A,H` (R161). -/
def execAndA_H (s : State) : Out := aluA 0xA4 1 .and (.reg .h) s

/-- `AND A,L` (R161). -/
def execAndA_L (s : State) : Out := aluA 0xA5 1 .and (.reg .l) s

/-- `AND A,(HL)` (R161). -/
def execAndA_MHL (s : State) : Out := aluA 0xA6 2 .and .mem s

/-- `AND A,A` (R161). -/
def execAndA_A (s : State) : Out := aluA 0xA7 1 .and (.reg .a) s

/-- `XOR A,B` (R162). -/
def execXorA_B (s : State) : Out := aluA 0xA8 1 .xor (.reg .b) s

/-- `XOR A,C` (R162). -/
def execXorA_C (s : State) : Out := aluA 0xA9 1 .xor (.reg .c) s

/-- `XOR A,D` (R162). -/
def execXorA_D (s : State) : Out := aluA 0xAA 1 .xor (.reg .d) s

/-- `XOR A,E` (R162). -/
def execXorA_E (s : State) : Out := aluA 0xAB 1 .xor (.reg .e) s

/-- `XOR A,H` (R162). -/
def execXorA_H (s : State) : Out := aluA 0xAC 1 .xor (.reg .h) s

/-- `XOR A,L` (R162). -/
def execXorA_L (s : State) : Out := aluA 0xAD 1 .xor (.reg .l) s

/-- `XOR A,(HL)` (R162). -/
def execXorA_MHL (s : State) : Out := aluA 0xAE 2 .xor .mem s

/-- `XOR A,A` (R162). -/
def execXorA_A (s : State) : Out := aluA 0xAF 1 .xor (.reg .a) s

/-- `OR A,B` (R163). -/
def execOrA_B (s : State) : Out := aluA 0xB0 1 .or (.reg .b) s

/-- `OR A,C` (R163). -/
def execOrA_C (s : State) : Out := aluA 0xB1 1 .or (.reg .c) s

/-- `OR A,D` (R163). -/
def execOrA_D (s : State) : Out := aluA 0xB2 1 .or (.reg .d) s

/-- `OR A,E` (R163). -/
def execOrA_E (s : State) : Out := aluA 0xB3 1 .or (.reg .e) s

/-- `OR A,H` (R163). -/
def execOrA_H (s : State) : Out := aluA 0xB4 1 .or (.reg .h) s

/-- `OR A,L` (R163). -/
def execOrA_L (s : State) : Out := aluA 0xB5 1 .or (.reg .l) s

/-- `OR A,(HL)` (R163). -/
def execOrA_MHL (s : State) : Out := aluA 0xB6 2 .or .mem s

/-- `OR A,A` (R163). -/
def execOrA_A (s : State) : Out := aluA 0xB7 1 .or (.reg .a) s

/-- `CP A,B` (R164). -/
def execCpA_B (s : State) : Out := aluA 0xB8 1 .cp (.reg .b) s

/-- `CP A,C` (R164). -/
def execCpA_C (s : State) : Out := aluA 0xB9 1 .cp (.reg .c) s

/-- `CP A,D` (R164). -/
def execCpA_D (s : State) : Out := aluA 0xBA 1 .cp (.reg .d) s

/-- `CP A,E` (R164). -/
def execCpA_E (s : State) : Out := aluA 0xBB 1 .cp (.reg .e) s

/-- `CP A,H` (R164). -/
def execCpA_H (s : State) : Out := aluA 0xBC 1 .cp (.reg .h) s

/-- `CP A,L` (R164). -/
def execCpA_L (s : State) : Out := aluA 0xBD 1 .cp (.reg .l) s

/-- `CP A,(HL)` (R164). -/
def execCpA_MHL (s : State) : Out := aluA 0xBE 2 .cp .mem s

/-- `CP A,A` (R164). -/
def execCpA_A (s : State) : Out := aluA 0xBF 1 .cp (.reg .a) s

/-- `ADD A,d8` (R157). -/
def execAddA_d8 (d : Byte) (s : State) : Out := aluA 0xC6 2 .add (.imm d) s

/-- `ADC A,d8` (R158). -/
def execAdcA_d8 (d : Byte) (s : State) : Out := aluA 0xCE 2 .adc (.imm d) s

/-- `SUB A,d8` (R159). -/
def execSubA_d8 (d : Byte) (s : State) : Out := aluA 0xD6 2 .sub (.imm d) s

/-- `SBC A,d8` (R160). -/
def execSbcA_d8 (d : Byte) (s : State) : Out := aluA 0xDE 2 .sbc (.imm d) s

/-- `AND A,d8` (R161). -/
def execAndA_d8 (d : Byte) (s : State) : Out := aluA 0xE6 2 .and (.imm d) s

/-- `XOR A,d8` (R162). -/
def execXorA_d8 (d : Byte) (s : State) : Out := aluA 0xEE 2 .xor (.imm d) s

/-- `OR A,d8` (R163). -/
def execOrA_d8 (d : Byte) (s : State) : Out := aluA 0xF6 2 .or (.imm d) s

/-- `CP A,d8` (R164). -/
def execCpA_d8 (d : Byte) (s : State) : Out := aluA 0xFE 2 .cp (.imm d) s

end Sys2Proof.Machine
end

