-- ==== Sys2Proof/Machine/BitOps.lean ====
section
/-! DEFINITION. The meanings of the secondary page (`44_rotate_shift_bit.md` R204 to R215). The fetch is over: `PC` points past the instruction. -/

namespace Sys2Proof.Machine

/-- The cost of a secondary-page instruction that writes its operand back: 2, or 4 on `(HL)` (R204). -/
def modifyCost : Operand8 → Nat
  | .reg _ => 2
  | .mem => 4

/-- The cost of `BIT`: 2, or 3 on `(HL)` (R204). -/
def testCost : Operand8 → Nat
  | .reg _ => 2
  | .mem => 3

/-- A rotate or shift (R205 to R212). -/
def rotate (key : Nat) (op : RotOp) (o : Operand8) (s : State) : Out :=
  onOk (readOperand s o) fun v =>
    let r := rotate8 op v s.cpu.flags.c
    onOk (writeOperand s o r.1) fun t =>
      done (t.setFlags { z := r.1 == 0#8, n := false, h := false, c := r.2 }) key (modifyCost o)

/-- `BIT n,r` (R213): nothing is written back; `CF` kept. -/
def bitBit (key : Nat) (n : BitNo) (o : Operand8) (s : State) : Out :=
  onOk (readOperand s o) fun v =>
    done (s.setFlags { z := !v.getLsbD n.toNat, n := false, h := true, c := s.cpu.flags.c }) key (testCost o)

/-- `RES n,r` (R214). -/
def resBit (key : Nat) (n : BitNo) (o : Operand8) (s : State) : Out :=
  onOk (readOperand s o) fun v =>
    onOk (writeOperand s o (clearBit n v)) fun t => done t key (modifyCost o)

/-- `SET n,r` (R215). -/
def setBitOn (key : Nat) (n : BitNo) (o : Operand8) (s : State) : Out :=
  onOk (readOperand s o) fun v =>
    onOk (writeOperand s o (setBit n v)) fun t => done t key (modifyCost o)

/-- The secondary-page instruction the second byte selects, by its fields (R99, R204). -/
def secondary (op2 : Byte) (s : State) : Out :=
  let key := 0xCB00 + op2.toNat
  let y := op2.toNat / 8 % 8
  let o := operandAt (op2.toNat % 8)
  match op2.toNat / 64 with
  | 0 => rotate key (rotAt y) o s
  | 1 => bitBit key (bitNoAt y) o s
  | 2 => resBit key (bitNoAt y) o s
  | _ => setBitOn key (bitNoAt y) o s

/-- `RLC B` (R205). -/
def execRlcB (s : State) : Out := rotate 0xCB00 .rlc (.reg .b) s

/-- `RLC C` (R205). -/
def execRlcC (s : State) : Out := rotate 0xCB01 .rlc (.reg .c) s

/-- `RLC D` (R205). -/
def execRlcD (s : State) : Out := rotate 0xCB02 .rlc (.reg .d) s

/-- `RLC E` (R205). -/
def execRlcE (s : State) : Out := rotate 0xCB03 .rlc (.reg .e) s

/-- `RLC H` (R205). -/
def execRlcH (s : State) : Out := rotate 0xCB04 .rlc (.reg .h) s

/-- `RLC L` (R205). -/
def execRlcL (s : State) : Out := rotate 0xCB05 .rlc (.reg .l) s

/-- `RLC (HL)` (R205). -/
def execRlcMHL (s : State) : Out := rotate 0xCB06 .rlc .mem s

/-- `RLC A` (R205). -/
def execRlcA (s : State) : Out := rotate 0xCB07 .rlc (.reg .a) s

/-- `RRC B` (R206). -/
def execRrcB (s : State) : Out := rotate 0xCB08 .rrc (.reg .b) s

/-- `RRC C` (R206). -/
def execRrcC (s : State) : Out := rotate 0xCB09 .rrc (.reg .c) s

/-- `RRC D` (R206). -/
def execRrcD (s : State) : Out := rotate 0xCB0A .rrc (.reg .d) s

/-- `RRC E` (R206). -/
def execRrcE (s : State) : Out := rotate 0xCB0B .rrc (.reg .e) s

/-- `RRC H` (R206). -/
def execRrcH (s : State) : Out := rotate 0xCB0C .rrc (.reg .h) s

/-- `RRC L` (R206). -/
def execRrcL (s : State) : Out := rotate 0xCB0D .rrc (.reg .l) s

/-- `RRC (HL)` (R206). -/
def execRrcMHL (s : State) : Out := rotate 0xCB0E .rrc .mem s

/-- `RRC A` (R206). -/
def execRrcA (s : State) : Out := rotate 0xCB0F .rrc (.reg .a) s

/-- `RL B` (R207). -/
def execRlB (s : State) : Out := rotate 0xCB10 .rl (.reg .b) s

/-- `RL C` (R207). -/
def execRlC (s : State) : Out := rotate 0xCB11 .rl (.reg .c) s

/-- `RL D` (R207). -/
def execRlD (s : State) : Out := rotate 0xCB12 .rl (.reg .d) s

/-- `RL E` (R207). -/
def execRlE (s : State) : Out := rotate 0xCB13 .rl (.reg .e) s

/-- `RL H` (R207). -/
def execRlH (s : State) : Out := rotate 0xCB14 .rl (.reg .h) s

/-- `RL L` (R207). -/
def execRlL (s : State) : Out := rotate 0xCB15 .rl (.reg .l) s

/-- `RL (HL)` (R207). -/
def execRlMHL (s : State) : Out := rotate 0xCB16 .rl .mem s

/-- `RL A` (R207). -/
def execRlA (s : State) : Out := rotate 0xCB17 .rl (.reg .a) s

/-- `RR B` (R208). -/
def execRrB (s : State) : Out := rotate 0xCB18 .rr (.reg .b) s

/-- `RR C` (R208). -/
def execRrC (s : State) : Out := rotate 0xCB19 .rr (.reg .c) s

/-- `RR D` (R208). -/
def execRrD (s : State) : Out := rotate 0xCB1A .rr (.reg .d) s

/-- `RR E` (R208). -/
def execRrE (s : State) : Out := rotate 0xCB1B .rr (.reg .e) s

/-- `RR H` (R208). -/
def execRrH (s : State) : Out := rotate 0xCB1C .rr (.reg .h) s

/-- `RR L` (R208). -/
def execRrL (s : State) : Out := rotate 0xCB1D .rr (.reg .l) s

/-- `RR (HL)` (R208). -/
def execRrMHL (s : State) : Out := rotate 0xCB1E .rr .mem s

/-- `RR A` (R208). -/
def execRrA (s : State) : Out := rotate 0xCB1F .rr (.reg .a) s

/-- `SLA B` (R209). -/
def execSlaB (s : State) : Out := rotate 0xCB20 .sla (.reg .b) s

/-- `SLA C` (R209). -/
def execSlaC (s : State) : Out := rotate 0xCB21 .sla (.reg .c) s

/-- `SLA D` (R209). -/
def execSlaD (s : State) : Out := rotate 0xCB22 .sla (.reg .d) s

/-- `SLA E` (R209). -/
def execSlaE (s : State) : Out := rotate 0xCB23 .sla (.reg .e) s

/-- `SLA H` (R209). -/
def execSlaH (s : State) : Out := rotate 0xCB24 .sla (.reg .h) s

/-- `SLA L` (R209). -/
def execSlaL (s : State) : Out := rotate 0xCB25 .sla (.reg .l) s

/-- `SLA (HL)` (R209). -/
def execSlaMHL (s : State) : Out := rotate 0xCB26 .sla .mem s

/-- `SLA A` (R209). -/
def execSlaA (s : State) : Out := rotate 0xCB27 .sla (.reg .a) s

/-- `SRA B` (R210). -/
def execSraB (s : State) : Out := rotate 0xCB28 .sra (.reg .b) s

/-- `SRA C` (R210). -/
def execSraC (s : State) : Out := rotate 0xCB29 .sra (.reg .c) s

/-- `SRA D` (R210). -/
def execSraD (s : State) : Out := rotate 0xCB2A .sra (.reg .d) s

/-- `SRA E` (R210). -/
def execSraE (s : State) : Out := rotate 0xCB2B .sra (.reg .e) s

/-- `SRA H` (R210). -/
def execSraH (s : State) : Out := rotate 0xCB2C .sra (.reg .h) s

/-- `SRA L` (R210). -/
def execSraL (s : State) : Out := rotate 0xCB2D .sra (.reg .l) s

/-- `SRA (HL)` (R210). -/
def execSraMHL (s : State) : Out := rotate 0xCB2E .sra .mem s

/-- `SRA A` (R210). -/
def execSraA (s : State) : Out := rotate 0xCB2F .sra (.reg .a) s

/-- `SWAP B` (R211). -/
def execSwapB (s : State) : Out := rotate 0xCB30 .swap (.reg .b) s

/-- `SWAP C` (R211). -/
def execSwapC (s : State) : Out := rotate 0xCB31 .swap (.reg .c) s

/-- `SWAP D` (R211). -/
def execSwapD (s : State) : Out := rotate 0xCB32 .swap (.reg .d) s

/-- `SWAP E` (R211). -/
def execSwapE (s : State) : Out := rotate 0xCB33 .swap (.reg .e) s

/-- `SWAP H` (R211). -/
def execSwapH (s : State) : Out := rotate 0xCB34 .swap (.reg .h) s

/-- `SWAP L` (R211). -/
def execSwapL (s : State) : Out := rotate 0xCB35 .swap (.reg .l) s

/-- `SWAP (HL)` (R211). -/
def execSwapMHL (s : State) : Out := rotate 0xCB36 .swap .mem s

/-- `SWAP A` (R211). -/
def execSwapA (s : State) : Out := rotate 0xCB37 .swap (.reg .a) s

/-- `SRL B` (R212). -/
def execSrlB (s : State) : Out := rotate 0xCB38 .srl (.reg .b) s

/-- `SRL C` (R212). -/
def execSrlC (s : State) : Out := rotate 0xCB39 .srl (.reg .c) s

/-- `SRL D` (R212). -/
def execSrlD (s : State) : Out := rotate 0xCB3A .srl (.reg .d) s

/-- `SRL E` (R212). -/
def execSrlE (s : State) : Out := rotate 0xCB3B .srl (.reg .e) s

/-- `SRL H` (R212). -/
def execSrlH (s : State) : Out := rotate 0xCB3C .srl (.reg .h) s

/-- `SRL L` (R212). -/
def execSrlL (s : State) : Out := rotate 0xCB3D .srl (.reg .l) s

/-- `SRL (HL)` (R212). -/
def execSrlMHL (s : State) : Out := rotate 0xCB3E .srl .mem s

/-- `SRL A` (R212). -/
def execSrlA (s : State) : Out := rotate 0xCB3F .srl (.reg .a) s

/-- `BIT 0,B` (R213). -/
def execBit0_B (s : State) : Out := bitBit 0xCB40 .n0 (.reg .b) s

/-- `BIT 0,C` (R213). -/
def execBit0_C (s : State) : Out := bitBit 0xCB41 .n0 (.reg .c) s

/-- `BIT 0,D` (R213). -/
def execBit0_D (s : State) : Out := bitBit 0xCB42 .n0 (.reg .d) s

/-- `BIT 0,E` (R213). -/
def execBit0_E (s : State) : Out := bitBit 0xCB43 .n0 (.reg .e) s

/-- `BIT 0,H` (R213). -/
def execBit0_H (s : State) : Out := bitBit 0xCB44 .n0 (.reg .h) s

/-- `BIT 0,L` (R213). -/
def execBit0_L (s : State) : Out := bitBit 0xCB45 .n0 (.reg .l) s

/-- `BIT 0,(HL)` (R213). -/
def execBit0_MHL (s : State) : Out := bitBit 0xCB46 .n0 .mem s

/-- `BIT 0,A` (R213). -/
def execBit0_A (s : State) : Out := bitBit 0xCB47 .n0 (.reg .a) s

/-- `BIT 1,B` (R213). -/
def execBit1_B (s : State) : Out := bitBit 0xCB48 .n1 (.reg .b) s

/-- `BIT 1,C` (R213). -/
def execBit1_C (s : State) : Out := bitBit 0xCB49 .n1 (.reg .c) s

/-- `BIT 1,D` (R213). -/
def execBit1_D (s : State) : Out := bitBit 0xCB4A .n1 (.reg .d) s

/-- `BIT 1,E` (R213). -/
def execBit1_E (s : State) : Out := bitBit 0xCB4B .n1 (.reg .e) s

/-- `BIT 1,H` (R213). -/
def execBit1_H (s : State) : Out := bitBit 0xCB4C .n1 (.reg .h) s

/-- `BIT 1,L` (R213). -/
def execBit1_L (s : State) : Out := bitBit 0xCB4D .n1 (.reg .l) s

/-- `BIT 1,(HL)` (R213). -/
def execBit1_MHL (s : State) : Out := bitBit 0xCB4E .n1 .mem s

/-- `BIT 1,A` (R213). -/
def execBit1_A (s : State) : Out := bitBit 0xCB4F .n1 (.reg .a) s

/-- `BIT 2,B` (R213). -/
def execBit2_B (s : State) : Out := bitBit 0xCB50 .n2 (.reg .b) s

/-- `BIT 2,C` (R213). -/
def execBit2_C (s : State) : Out := bitBit 0xCB51 .n2 (.reg .c) s

/-- `BIT 2,D` (R213). -/
def execBit2_D (s : State) : Out := bitBit 0xCB52 .n2 (.reg .d) s

/-- `BIT 2,E` (R213). -/
def execBit2_E (s : State) : Out := bitBit 0xCB53 .n2 (.reg .e) s

/-- `BIT 2,H` (R213). -/
def execBit2_H (s : State) : Out := bitBit 0xCB54 .n2 (.reg .h) s

/-- `BIT 2,L` (R213). -/
def execBit2_L (s : State) : Out := bitBit 0xCB55 .n2 (.reg .l) s

/-- `BIT 2,(HL)` (R213). -/
def execBit2_MHL (s : State) : Out := bitBit 0xCB56 .n2 .mem s

/-- `BIT 2,A` (R213). -/
def execBit2_A (s : State) : Out := bitBit 0xCB57 .n2 (.reg .a) s

/-- `BIT 3,B` (R213). -/
def execBit3_B (s : State) : Out := bitBit 0xCB58 .n3 (.reg .b) s

/-- `BIT 3,C` (R213). -/
def execBit3_C (s : State) : Out := bitBit 0xCB59 .n3 (.reg .c) s

/-- `BIT 3,D` (R213). -/
def execBit3_D (s : State) : Out := bitBit 0xCB5A .n3 (.reg .d) s

/-- `BIT 3,E` (R213). -/
def execBit3_E (s : State) : Out := bitBit 0xCB5B .n3 (.reg .e) s

/-- `BIT 3,H` (R213). -/
def execBit3_H (s : State) : Out := bitBit 0xCB5C .n3 (.reg .h) s

/-- `BIT 3,L` (R213). -/
def execBit3_L (s : State) : Out := bitBit 0xCB5D .n3 (.reg .l) s

/-- `BIT 3,(HL)` (R213). -/
def execBit3_MHL (s : State) : Out := bitBit 0xCB5E .n3 .mem s

/-- `BIT 3,A` (R213). -/
def execBit3_A (s : State) : Out := bitBit 0xCB5F .n3 (.reg .a) s

/-- `BIT 4,B` (R213). -/
def execBit4_B (s : State) : Out := bitBit 0xCB60 .n4 (.reg .b) s

/-- `BIT 4,C` (R213). -/
def execBit4_C (s : State) : Out := bitBit 0xCB61 .n4 (.reg .c) s

/-- `BIT 4,D` (R213). -/
def execBit4_D (s : State) : Out := bitBit 0xCB62 .n4 (.reg .d) s

/-- `BIT 4,E` (R213). -/
def execBit4_E (s : State) : Out := bitBit 0xCB63 .n4 (.reg .e) s

/-- `BIT 4,H` (R213). -/
def execBit4_H (s : State) : Out := bitBit 0xCB64 .n4 (.reg .h) s

/-- `BIT 4,L` (R213). -/
def execBit4_L (s : State) : Out := bitBit 0xCB65 .n4 (.reg .l) s

/-- `BIT 4,(HL)` (R213). -/
def execBit4_MHL (s : State) : Out := bitBit 0xCB66 .n4 .mem s

/-- `BIT 4,A` (R213). -/
def execBit4_A (s : State) : Out := bitBit 0xCB67 .n4 (.reg .a) s

/-- `BIT 5,B` (R213). -/
def execBit5_B (s : State) : Out := bitBit 0xCB68 .n5 (.reg .b) s

/-- `BIT 5,C` (R213). -/
def execBit5_C (s : State) : Out := bitBit 0xCB69 .n5 (.reg .c) s

/-- `BIT 5,D` (R213). -/
def execBit5_D (s : State) : Out := bitBit 0xCB6A .n5 (.reg .d) s

/-- `BIT 5,E` (R213). -/
def execBit5_E (s : State) : Out := bitBit 0xCB6B .n5 (.reg .e) s

/-- `BIT 5,H` (R213). -/
def execBit5_H (s : State) : Out := bitBit 0xCB6C .n5 (.reg .h) s

/-- `BIT 5,L` (R213). -/
def execBit5_L (s : State) : Out := bitBit 0xCB6D .n5 (.reg .l) s

/-- `BIT 5,(HL)` (R213). -/
def execBit5_MHL (s : State) : Out := bitBit 0xCB6E .n5 .mem s

/-- `BIT 5,A` (R213). -/
def execBit5_A (s : State) : Out := bitBit 0xCB6F .n5 (.reg .a) s

/-- `BIT 6,B` (R213). -/
def execBit6_B (s : State) : Out := bitBit 0xCB70 .n6 (.reg .b) s

/-- `BIT 6,C` (R213). -/
def execBit6_C (s : State) : Out := bitBit 0xCB71 .n6 (.reg .c) s

/-- `BIT 6,D` (R213). -/
def execBit6_D (s : State) : Out := bitBit 0xCB72 .n6 (.reg .d) s

/-- `BIT 6,E` (R213). -/
def execBit6_E (s : State) : Out := bitBit 0xCB73 .n6 (.reg .e) s

/-- `BIT 6,H` (R213). -/
def execBit6_H (s : State) : Out := bitBit 0xCB74 .n6 (.reg .h) s

/-- `BIT 6,L` (R213). -/
def execBit6_L (s : State) : Out := bitBit 0xCB75 .n6 (.reg .l) s

/-- `BIT 6,(HL)` (R213). -/
def execBit6_MHL (s : State) : Out := bitBit 0xCB76 .n6 .mem s

/-- `BIT 6,A` (R213). -/
def execBit6_A (s : State) : Out := bitBit 0xCB77 .n6 (.reg .a) s

/-- `BIT 7,B` (R213). -/
def execBit7_B (s : State) : Out := bitBit 0xCB78 .n7 (.reg .b) s

/-- `BIT 7,C` (R213). -/
def execBit7_C (s : State) : Out := bitBit 0xCB79 .n7 (.reg .c) s

/-- `BIT 7,D` (R213). -/
def execBit7_D (s : State) : Out := bitBit 0xCB7A .n7 (.reg .d) s

/-- `BIT 7,E` (R213). -/
def execBit7_E (s : State) : Out := bitBit 0xCB7B .n7 (.reg .e) s

/-- `BIT 7,H` (R213). -/
def execBit7_H (s : State) : Out := bitBit 0xCB7C .n7 (.reg .h) s

/-- `BIT 7,L` (R213). -/
def execBit7_L (s : State) : Out := bitBit 0xCB7D .n7 (.reg .l) s

/-- `BIT 7,(HL)` (R213). -/
def execBit7_MHL (s : State) : Out := bitBit 0xCB7E .n7 .mem s

/-- `BIT 7,A` (R213). -/
def execBit7_A (s : State) : Out := bitBit 0xCB7F .n7 (.reg .a) s

/-- `RES 0,B` (R214). -/
def execRes0_B (s : State) : Out := resBit 0xCB80 .n0 (.reg .b) s

/-- `RES 0,C` (R214). -/
def execRes0_C (s : State) : Out := resBit 0xCB81 .n0 (.reg .c) s

/-- `RES 0,D` (R214). -/
def execRes0_D (s : State) : Out := resBit 0xCB82 .n0 (.reg .d) s

/-- `RES 0,E` (R214). -/
def execRes0_E (s : State) : Out := resBit 0xCB83 .n0 (.reg .e) s

/-- `RES 0,H` (R214). -/
def execRes0_H (s : State) : Out := resBit 0xCB84 .n0 (.reg .h) s

/-- `RES 0,L` (R214). -/
def execRes0_L (s : State) : Out := resBit 0xCB85 .n0 (.reg .l) s

/-- `RES 0,(HL)` (R214). -/
def execRes0_MHL (s : State) : Out := resBit 0xCB86 .n0 .mem s

/-- `RES 0,A` (R214). -/
def execRes0_A (s : State) : Out := resBit 0xCB87 .n0 (.reg .a) s

/-- `RES 1,B` (R214). -/
def execRes1_B (s : State) : Out := resBit 0xCB88 .n1 (.reg .b) s

/-- `RES 1,C` (R214). -/
def execRes1_C (s : State) : Out := resBit 0xCB89 .n1 (.reg .c) s

/-- `RES 1,D` (R214). -/
def execRes1_D (s : State) : Out := resBit 0xCB8A .n1 (.reg .d) s

/-- `RES 1,E` (R214). -/
def execRes1_E (s : State) : Out := resBit 0xCB8B .n1 (.reg .e) s

/-- `RES 1,H` (R214). -/
def execRes1_H (s : State) : Out := resBit 0xCB8C .n1 (.reg .h) s

/-- `RES 1,L` (R214). -/
def execRes1_L (s : State) : Out := resBit 0xCB8D .n1 (.reg .l) s

/-- `RES 1,(HL)` (R214). -/
def execRes1_MHL (s : State) : Out := resBit 0xCB8E .n1 .mem s

/-- `RES 1,A` (R214). -/
def execRes1_A (s : State) : Out := resBit 0xCB8F .n1 (.reg .a) s

/-- `RES 2,B` (R214). -/
def execRes2_B (s : State) : Out := resBit 0xCB90 .n2 (.reg .b) s

/-- `RES 2,C` (R214). -/
def execRes2_C (s : State) : Out := resBit 0xCB91 .n2 (.reg .c) s

/-- `RES 2,D` (R214). -/
def execRes2_D (s : State) : Out := resBit 0xCB92 .n2 (.reg .d) s

/-- `RES 2,E` (R214). -/
def execRes2_E (s : State) : Out := resBit 0xCB93 .n2 (.reg .e) s

/-- `RES 2,H` (R214). -/
def execRes2_H (s : State) : Out := resBit 0xCB94 .n2 (.reg .h) s

/-- `RES 2,L` (R214). -/
def execRes2_L (s : State) : Out := resBit 0xCB95 .n2 (.reg .l) s

/-- `RES 2,(HL)` (R214). -/
def execRes2_MHL (s : State) : Out := resBit 0xCB96 .n2 .mem s

/-- `RES 2,A` (R214). -/
def execRes2_A (s : State) : Out := resBit 0xCB97 .n2 (.reg .a) s

/-- `RES 3,B` (R214). -/
def execRes3_B (s : State) : Out := resBit 0xCB98 .n3 (.reg .b) s

/-- `RES 3,C` (R214). -/
def execRes3_C (s : State) : Out := resBit 0xCB99 .n3 (.reg .c) s

/-- `RES 3,D` (R214). -/
def execRes3_D (s : State) : Out := resBit 0xCB9A .n3 (.reg .d) s

/-- `RES 3,E` (R214). -/
def execRes3_E (s : State) : Out := resBit 0xCB9B .n3 (.reg .e) s

/-- `RES 3,H` (R214). -/
def execRes3_H (s : State) : Out := resBit 0xCB9C .n3 (.reg .h) s

/-- `RES 3,L` (R214). -/
def execRes3_L (s : State) : Out := resBit 0xCB9D .n3 (.reg .l) s

/-- `RES 3,(HL)` (R214). -/
def execRes3_MHL (s : State) : Out := resBit 0xCB9E .n3 .mem s

/-- `RES 3,A` (R214). -/
def execRes3_A (s : State) : Out := resBit 0xCB9F .n3 (.reg .a) s

/-- `RES 4,B` (R214). -/
def execRes4_B (s : State) : Out := resBit 0xCBA0 .n4 (.reg .b) s

/-- `RES 4,C` (R214). -/
def execRes4_C (s : State) : Out := resBit 0xCBA1 .n4 (.reg .c) s

/-- `RES 4,D` (R214). -/
def execRes4_D (s : State) : Out := resBit 0xCBA2 .n4 (.reg .d) s

/-- `RES 4,E` (R214). -/
def execRes4_E (s : State) : Out := resBit 0xCBA3 .n4 (.reg .e) s

/-- `RES 4,H` (R214). -/
def execRes4_H (s : State) : Out := resBit 0xCBA4 .n4 (.reg .h) s

/-- `RES 4,L` (R214). -/
def execRes4_L (s : State) : Out := resBit 0xCBA5 .n4 (.reg .l) s

/-- `RES 4,(HL)` (R214). -/
def execRes4_MHL (s : State) : Out := resBit 0xCBA6 .n4 .mem s

/-- `RES 4,A` (R214). -/
def execRes4_A (s : State) : Out := resBit 0xCBA7 .n4 (.reg .a) s

/-- `RES 5,B` (R214). -/
def execRes5_B (s : State) : Out := resBit 0xCBA8 .n5 (.reg .b) s

/-- `RES 5,C` (R214). -/
def execRes5_C (s : State) : Out := resBit 0xCBA9 .n5 (.reg .c) s

/-- `RES 5,D` (R214). -/
def execRes5_D (s : State) : Out := resBit 0xCBAA .n5 (.reg .d) s

/-- `RES 5,E` (R214). -/
def execRes5_E (s : State) : Out := resBit 0xCBAB .n5 (.reg .e) s

/-- `RES 5,H` (R214). -/
def execRes5_H (s : State) : Out := resBit 0xCBAC .n5 (.reg .h) s

/-- `RES 5,L` (R214). -/
def execRes5_L (s : State) : Out := resBit 0xCBAD .n5 (.reg .l) s

/-- `RES 5,(HL)` (R214). -/
def execRes5_MHL (s : State) : Out := resBit 0xCBAE .n5 .mem s

/-- `RES 5,A` (R214). -/
def execRes5_A (s : State) : Out := resBit 0xCBAF .n5 (.reg .a) s

/-- `RES 6,B` (R214). -/
def execRes6_B (s : State) : Out := resBit 0xCBB0 .n6 (.reg .b) s

/-- `RES 6,C` (R214). -/
def execRes6_C (s : State) : Out := resBit 0xCBB1 .n6 (.reg .c) s

/-- `RES 6,D` (R214). -/
def execRes6_D (s : State) : Out := resBit 0xCBB2 .n6 (.reg .d) s

/-- `RES 6,E` (R214). -/
def execRes6_E (s : State) : Out := resBit 0xCBB3 .n6 (.reg .e) s

/-- `RES 6,H` (R214). -/
def execRes6_H (s : State) : Out := resBit 0xCBB4 .n6 (.reg .h) s

/-- `RES 6,L` (R214). -/
def execRes6_L (s : State) : Out := resBit 0xCBB5 .n6 (.reg .l) s

/-- `RES 6,(HL)` (R214). -/
def execRes6_MHL (s : State) : Out := resBit 0xCBB6 .n6 .mem s

/-- `RES 6,A` (R214). -/
def execRes6_A (s : State) : Out := resBit 0xCBB7 .n6 (.reg .a) s

/-- `RES 7,B` (R214). -/
def execRes7_B (s : State) : Out := resBit 0xCBB8 .n7 (.reg .b) s

/-- `RES 7,C` (R214). -/
def execRes7_C (s : State) : Out := resBit 0xCBB9 .n7 (.reg .c) s

/-- `RES 7,D` (R214). -/
def execRes7_D (s : State) : Out := resBit 0xCBBA .n7 (.reg .d) s

/-- `RES 7,E` (R214). -/
def execRes7_E (s : State) : Out := resBit 0xCBBB .n7 (.reg .e) s

/-- `RES 7,H` (R214). -/
def execRes7_H (s : State) : Out := resBit 0xCBBC .n7 (.reg .h) s

/-- `RES 7,L` (R214). -/
def execRes7_L (s : State) : Out := resBit 0xCBBD .n7 (.reg .l) s

/-- `RES 7,(HL)` (R214). -/
def execRes7_MHL (s : State) : Out := resBit 0xCBBE .n7 .mem s

/-- `RES 7,A` (R214). -/
def execRes7_A (s : State) : Out := resBit 0xCBBF .n7 (.reg .a) s

/-- `SET 0,B` (R215). -/
def execSet0_B (s : State) : Out := setBitOn 0xCBC0 .n0 (.reg .b) s

/-- `SET 0,C` (R215). -/
def execSet0_C (s : State) : Out := setBitOn 0xCBC1 .n0 (.reg .c) s

/-- `SET 0,D` (R215). -/
def execSet0_D (s : State) : Out := setBitOn 0xCBC2 .n0 (.reg .d) s

/-- `SET 0,E` (R215). -/
def execSet0_E (s : State) : Out := setBitOn 0xCBC3 .n0 (.reg .e) s

/-- `SET 0,H` (R215). -/
def execSet0_H (s : State) : Out := setBitOn 0xCBC4 .n0 (.reg .h) s

/-- `SET 0,L` (R215). -/
def execSet0_L (s : State) : Out := setBitOn 0xCBC5 .n0 (.reg .l) s

/-- `SET 0,(HL)` (R215). -/
def execSet0_MHL (s : State) : Out := setBitOn 0xCBC6 .n0 .mem s

/-- `SET 0,A` (R215). -/
def execSet0_A (s : State) : Out := setBitOn 0xCBC7 .n0 (.reg .a) s

/-- `SET 1,B` (R215). -/
def execSet1_B (s : State) : Out := setBitOn 0xCBC8 .n1 (.reg .b) s

/-- `SET 1,C` (R215). -/
def execSet1_C (s : State) : Out := setBitOn 0xCBC9 .n1 (.reg .c) s

/-- `SET 1,D` (R215). -/
def execSet1_D (s : State) : Out := setBitOn 0xCBCA .n1 (.reg .d) s

/-- `SET 1,E` (R215). -/
def execSet1_E (s : State) : Out := setBitOn 0xCBCB .n1 (.reg .e) s

/-- `SET 1,H` (R215). -/
def execSet1_H (s : State) : Out := setBitOn 0xCBCC .n1 (.reg .h) s

/-- `SET 1,L` (R215). -/
def execSet1_L (s : State) : Out := setBitOn 0xCBCD .n1 (.reg .l) s

/-- `SET 1,(HL)` (R215). -/
def execSet1_MHL (s : State) : Out := setBitOn 0xCBCE .n1 .mem s

/-- `SET 1,A` (R215). -/
def execSet1_A (s : State) : Out := setBitOn 0xCBCF .n1 (.reg .a) s

/-- `SET 2,B` (R215). -/
def execSet2_B (s : State) : Out := setBitOn 0xCBD0 .n2 (.reg .b) s

/-- `SET 2,C` (R215). -/
def execSet2_C (s : State) : Out := setBitOn 0xCBD1 .n2 (.reg .c) s

/-- `SET 2,D` (R215). -/
def execSet2_D (s : State) : Out := setBitOn 0xCBD2 .n2 (.reg .d) s

/-- `SET 2,E` (R215). -/
def execSet2_E (s : State) : Out := setBitOn 0xCBD3 .n2 (.reg .e) s

/-- `SET 2,H` (R215). -/
def execSet2_H (s : State) : Out := setBitOn 0xCBD4 .n2 (.reg .h) s

/-- `SET 2,L` (R215). -/
def execSet2_L (s : State) : Out := setBitOn 0xCBD5 .n2 (.reg .l) s

/-- `SET 2,(HL)` (R215). -/
def execSet2_MHL (s : State) : Out := setBitOn 0xCBD6 .n2 .mem s

/-- `SET 2,A` (R215). -/
def execSet2_A (s : State) : Out := setBitOn 0xCBD7 .n2 (.reg .a) s

/-- `SET 3,B` (R215). -/
def execSet3_B (s : State) : Out := setBitOn 0xCBD8 .n3 (.reg .b) s

/-- `SET 3,C` (R215). -/
def execSet3_C (s : State) : Out := setBitOn 0xCBD9 .n3 (.reg .c) s

/-- `SET 3,D` (R215). -/
def execSet3_D (s : State) : Out := setBitOn 0xCBDA .n3 (.reg .d) s

/-- `SET 3,E` (R215). -/
def execSet3_E (s : State) : Out := setBitOn 0xCBDB .n3 (.reg .e) s

/-- `SET 3,H` (R215). -/
def execSet3_H (s : State) : Out := setBitOn 0xCBDC .n3 (.reg .h) s

/-- `SET 3,L` (R215). -/
def execSet3_L (s : State) : Out := setBitOn 0xCBDD .n3 (.reg .l) s

/-- `SET 3,(HL)` (R215). -/
def execSet3_MHL (s : State) : Out := setBitOn 0xCBDE .n3 .mem s

/-- `SET 3,A` (R215). -/
def execSet3_A (s : State) : Out := setBitOn 0xCBDF .n3 (.reg .a) s

/-- `SET 4,B` (R215). -/
def execSet4_B (s : State) : Out := setBitOn 0xCBE0 .n4 (.reg .b) s

/-- `SET 4,C` (R215). -/
def execSet4_C (s : State) : Out := setBitOn 0xCBE1 .n4 (.reg .c) s

/-- `SET 4,D` (R215). -/
def execSet4_D (s : State) : Out := setBitOn 0xCBE2 .n4 (.reg .d) s

/-- `SET 4,E` (R215). -/
def execSet4_E (s : State) : Out := setBitOn 0xCBE3 .n4 (.reg .e) s

/-- `SET 4,H` (R215). -/
def execSet4_H (s : State) : Out := setBitOn 0xCBE4 .n4 (.reg .h) s

/-- `SET 4,L` (R215). -/
def execSet4_L (s : State) : Out := setBitOn 0xCBE5 .n4 (.reg .l) s

/-- `SET 4,(HL)` (R215). -/
def execSet4_MHL (s : State) : Out := setBitOn 0xCBE6 .n4 .mem s

/-- `SET 4,A` (R215). -/
def execSet4_A (s : State) : Out := setBitOn 0xCBE7 .n4 (.reg .a) s

/-- `SET 5,B` (R215). -/
def execSet5_B (s : State) : Out := setBitOn 0xCBE8 .n5 (.reg .b) s

/-- `SET 5,C` (R215). -/
def execSet5_C (s : State) : Out := setBitOn 0xCBE9 .n5 (.reg .c) s

/-- `SET 5,D` (R215). -/
def execSet5_D (s : State) : Out := setBitOn 0xCBEA .n5 (.reg .d) s

/-- `SET 5,E` (R215). -/
def execSet5_E (s : State) : Out := setBitOn 0xCBEB .n5 (.reg .e) s

/-- `SET 5,H` (R215). -/
def execSet5_H (s : State) : Out := setBitOn 0xCBEC .n5 (.reg .h) s

/-- `SET 5,L` (R215). -/
def execSet5_L (s : State) : Out := setBitOn 0xCBED .n5 (.reg .l) s

/-- `SET 5,(HL)` (R215). -/
def execSet5_MHL (s : State) : Out := setBitOn 0xCBEE .n5 .mem s

/-- `SET 5,A` (R215). -/
def execSet5_A (s : State) : Out := setBitOn 0xCBEF .n5 (.reg .a) s

/-- `SET 6,B` (R215). -/
def execSet6_B (s : State) : Out := setBitOn 0xCBF0 .n6 (.reg .b) s

/-- `SET 6,C` (R215). -/
def execSet6_C (s : State) : Out := setBitOn 0xCBF1 .n6 (.reg .c) s

/-- `SET 6,D` (R215). -/
def execSet6_D (s : State) : Out := setBitOn 0xCBF2 .n6 (.reg .d) s

/-- `SET 6,E` (R215). -/
def execSet6_E (s : State) : Out := setBitOn 0xCBF3 .n6 (.reg .e) s

/-- `SET 6,H` (R215). -/
def execSet6_H (s : State) : Out := setBitOn 0xCBF4 .n6 (.reg .h) s

/-- `SET 6,L` (R215). -/
def execSet6_L (s : State) : Out := setBitOn 0xCBF5 .n6 (.reg .l) s

/-- `SET 6,(HL)` (R215). -/
def execSet6_MHL (s : State) : Out := setBitOn 0xCBF6 .n6 .mem s

/-- `SET 6,A` (R215). -/
def execSet6_A (s : State) : Out := setBitOn 0xCBF7 .n6 (.reg .a) s

/-- `SET 7,B` (R215). -/
def execSet7_B (s : State) : Out := setBitOn 0xCBF8 .n7 (.reg .b) s

/-- `SET 7,C` (R215). -/
def execSet7_C (s : State) : Out := setBitOn 0xCBF9 .n7 (.reg .c) s

/-- `SET 7,D` (R215). -/
def execSet7_D (s : State) : Out := setBitOn 0xCBFA .n7 (.reg .d) s

/-- `SET 7,E` (R215). -/
def execSet7_E (s : State) : Out := setBitOn 0xCBFB .n7 (.reg .e) s

/-- `SET 7,H` (R215). -/
def execSet7_H (s : State) : Out := setBitOn 0xCBFC .n7 (.reg .h) s

/-- `SET 7,L` (R215). -/
def execSet7_L (s : State) : Out := setBitOn 0xCBFD .n7 (.reg .l) s

/-- `SET 7,(HL)` (R215). -/
def execSet7_MHL (s : State) : Out := setBitOn 0xCBFE .n7 .mem s

/-- `SET 7,A` (R215). -/
def execSet7_A (s : State) : Out := setBitOn 0xCBFF .n7 (.reg .a) s

end Sys2Proof.Machine
end

