-- ==== Sys2Proof/Machine/Control.lean ====
section
/-! DEFINITION. The meanings of control transfer (`45_control.md` R225 to R236); `PC` already points past the instruction. The fetch is over: `PC` points past the instruction. -/

namespace Sys2Proof.Machine

/-- The target of a relative jump (R228). -/
def relativeTarget (s : State) (e : Byte) : Word := s.cpu.pc + sext16 e

/-- `JP a16` (R225). -/
def jump (key : Nat) (a : Word) (s : State) : Out := done (s.setPc a) key 4

/-- `JP cc,a16` (R226). -/
def jumpIf (key : Nat) (cc : Cond) (a : Word) (s : State) : Out :=
  if s.cpu.holds cc then .next ((s.setPc a).chargeTaken key 4) else done s key 3

/-- `JP HL` (R227). -/
def jumpHL (key : Nat) (s : State) : Out := done (s.setPc (s.cpu.pair .hl)) key 1

/-- `JR e8` (R228). -/
def jumpRelative (key : Nat) (e : Byte) (s : State) : Out := done (s.setPc (relativeTarget s e)) key 3

/-- `JR cc,e8` (R229). -/
def jumpRelativeIf (key : Nat) (cc : Cond) (e : Byte) (s : State) : Out :=
  if s.cpu.holds cc then .next ((s.setPc (relativeTarget s e)).chargeTaken key 3) else done s key 2

/-- Push the return address and jump (R230, R236). -/
def callTo (a : Word) (s : State) : Except Refusal State :=
  match push16 s s.cpu.pc with
  | .ok t => .ok (t.setPc a)
  | .error r => .error r

/-- Pop the return address (R232). -/
def returnTo (s : State) : Except Refusal State :=
  match pop16 s with
  | .ok (v, t) => .ok (t.setPc v)
  | .error r => .error r

/-- `CALL a16` (R230). -/
def call (key : Nat) (a : Word) (s : State) : Out := onOk (callTo a s) fun t => done t key 6

/-- `CALL cc,a16` (R231). -/
def callIf (key : Nat) (cc : Cond) (a : Word) (s : State) : Out :=
  if s.cpu.holds cc then onOk (callTo a s) fun t => .next (t.chargeTaken key 6) else done s key 3

/-- `RET` (R232). -/
def ret (key : Nat) (s : State) : Out := onOk (returnTo s) fun t => done t key 4

/-- `RET cc` (R233). -/
def retIf (key : Nat) (cc : Cond) (s : State) : Out :=
  if s.cpu.holds cc then onOk (returnTo s) fun t => .next (t.chargeTaken key 5) else done s key 2

/-- `RETI` (R234). -/
def reti (key : Nat) (s : State) : Out := onOk (returnFromInterrupt s) fun t => done t key 4

/-- `RST t`, `t = y * 8` (R236). -/
def restart (key : Nat) (y : BitNo) (s : State) : Out :=
  onOk (callTo (BitVec.ofNat 16 (y.toNat * 8)) s) fun t => done t key 4

/-- `JR e8` (R228). -/
def execJr_e8 (e : Byte) (s : State) : Out := jumpRelative 0x18 e s

/-- `JR NZ,e8` (R229). -/
def execJrNZ_e8 (e : Byte) (s : State) : Out := jumpRelativeIf 0x20 .nz e s

/-- `JR Z,e8` (R229). -/
def execJrZ_e8 (e : Byte) (s : State) : Out := jumpRelativeIf 0x28 .z e s

/-- `JR NC,e8` (R229). -/
def execJrNC_e8 (e : Byte) (s : State) : Out := jumpRelativeIf 0x30 .nc e s

/-- `JR C,e8` (R229). -/
def execJrC_e8 (e : Byte) (s : State) : Out := jumpRelativeIf 0x38 .c e s

/-- `RET NZ` (R233). -/
def execRetNZ (s : State) : Out := retIf 0xC0 .nz s

/-- `JP NZ,a16` (R226). -/
def execJpNZ_a16 (addr : Word) (s : State) : Out := jumpIf 0xC2 .nz addr s

/-- `JP a16` (R225). -/
def execJp_a16 (addr : Word) (s : State) : Out := jump 0xC3 addr s

/-- `CALL NZ,a16` (R231). -/
def execCallNZ_a16 (addr : Word) (s : State) : Out := callIf 0xC4 .nz addr s

/-- `RST 0x00` (R236). -/
def execRst00 (s : State) : Out := restart 0xC7 .n0 s

/-- `RET Z` (R233). -/
def execRetZ (s : State) : Out := retIf 0xC8 .z s

/-- `RET` (R232). -/
def execRet (s : State) : Out := ret 0xC9 s

/-- `JP Z,a16` (R226). -/
def execJpZ_a16 (addr : Word) (s : State) : Out := jumpIf 0xCA .z addr s

/-- `CALL Z,a16` (R231). -/
def execCallZ_a16 (addr : Word) (s : State) : Out := callIf 0xCC .z addr s

/-- `CALL a16` (R230). -/
def execCall_a16 (addr : Word) (s : State) : Out := call 0xCD addr s

/-- `RST 0x08` (R236). -/
def execRst08 (s : State) : Out := restart 0xCF .n1 s

/-- `RET NC` (R233). -/
def execRetNC (s : State) : Out := retIf 0xD0 .nc s

/-- `JP NC,a16` (R226). -/
def execJpNC_a16 (addr : Word) (s : State) : Out := jumpIf 0xD2 .nc addr s

/-- `CALL NC,a16` (R231). -/
def execCallNC_a16 (addr : Word) (s : State) : Out := callIf 0xD4 .nc addr s

/-- `RST 0x10` (R236). -/
def execRst10 (s : State) : Out := restart 0xD7 .n2 s

/-- `RET C` (R233). -/
def execRetC (s : State) : Out := retIf 0xD8 .c s

/-- `RETI` (R234). -/
def execReti (s : State) : Out := reti 0xD9 s

/-- `JP C,a16` (R226). -/
def execJpC_a16 (addr : Word) (s : State) : Out := jumpIf 0xDA .c addr s

/-- `CALL C,a16` (R231). -/
def execCallC_a16 (addr : Word) (s : State) : Out := callIf 0xDC .c addr s

/-- `RST 0x18` (R236). -/
def execRst18 (s : State) : Out := restart 0xDF .n3 s

/-- `RST 0x20` (R236). -/
def execRst20 (s : State) : Out := restart 0xE7 .n4 s

/-- `JP HL` (R227). -/
def execJpHL (s : State) : Out := jumpHL 0xE9 s

/-- `RST 0x28` (R236). -/
def execRst28 (s : State) : Out := restart 0xEF .n5 s

/-- `RST 0x30` (R236). -/
def execRst30 (s : State) : Out := restart 0xF7 .n6 s

/-- `RST 0x38` (R236). -/
def execRst38 (s : State) : Out := restart 0xFF .n7 s

end Sys2Proof.Machine
end

