-- ==== Sys2Proof/Machine/Load16.lean ====
section
/-! DEFINITION. The meanings of 16-bit loads and the stack (`41_load16.md` R140 to R144). The fetch is over: `PC` points past the instruction. -/

namespace Sys2Proof.Machine

/-- A pair or `SP` loaded with an immediate (R140). -/
def loadPair (key : Nat) (p : Pair) (v : Word) (s : State) : Out := done (s.setPair p v) key 3

/-- `SP` stored at an address, low byte first (R141). -/
def storeSP (key : Nat) (a : Word) (s : State) : Out :=
  onOk (memWrite16 s a s.cpu.sp) fun t => done t key 5

/-- `HL` copied to `SP` (R142). -/
def loadSP (key : Nat) (s : State) : Out := done (s.setSp (s.cpu.pair .hl)) key 2

/-- `PUSH rs` (R143). -/
def pushPair (key : Nat) (p : StackPair) (s : State) : Out :=
  onOk (push16 s (s.cpu.stackPair p)) fun t => done t key 4

/-- `POP rs` (R144). -/
def popPair (key : Nat) (p : StackPair) (s : State) : Out :=
  onOk (pop16 s) fun r => done (r.2.setStackPair p r.1) key 3

/-- `LD BC,d16` (R140). -/
def execLdBC_d16 (v : Word) (s : State) : Out := loadPair 0x01 .bc v s

/-- `LD (a16),SP` (R141). -/
def execLdMa16_SP (addr : Word) (s : State) : Out := storeSP 0x08 addr s

/-- `LD DE,d16` (R140). -/
def execLdDE_d16 (v : Word) (s : State) : Out := loadPair 0x11 .de v s

/-- `LD HL,d16` (R140). -/
def execLdHL_d16 (v : Word) (s : State) : Out := loadPair 0x21 .hl v s

/-- `LD SP,d16` (R140). -/
def execLdSP_d16 (v : Word) (s : State) : Out := loadPair 0x31 .sp v s

/-- `POP BC` (R144). -/
def execPopBC (s : State) : Out := popPair 0xC1 .bc s

/-- `PUSH BC` (R143). -/
def execPushBC (s : State) : Out := pushPair 0xC5 .bc s

/-- `POP DE` (R144). -/
def execPopDE (s : State) : Out := popPair 0xD1 .de s

/-- `PUSH DE` (R143). -/
def execPushDE (s : State) : Out := pushPair 0xD5 .de s

/-- `POP HL` (R144). -/
def execPopHL (s : State) : Out := popPair 0xE1 .hl s

/-- `PUSH HL` (R143). -/
def execPushHL (s : State) : Out := pushPair 0xE5 .hl s

/-- `POP AF` (R144). -/
def execPopAF (s : State) : Out := popPair 0xF1 .af s

/-- `PUSH AF` (R143). -/
def execPushAF (s : State) : Out := pushPair 0xF5 .af s

/-- `LD SP,HL` (R142). -/
def execLdSP_HL (s : State) : Out := loadSP 0xF9 s

end Sys2Proof.Machine
end

