-- ==== Sys2Proof/Machine/Load8.lean ====
section
/-! DEFINITION. The meanings of 8-bit loads (`40_load8.md` R110 to R129). The fetch is over: `PC` points past the instruction. -/

namespace Sys2Proof.Machine

/-- A register loaded from a source operand (R110, R111, R112). -/
def loadReg (key n : Nat) (y : Reg) (src : Source8) (s : State) : Out :=
  onOk (readSource s src) fun v => done (s.setReg y v) key n

/-- `A` loaded from an address (R115, R116, R123, R126, R128). -/
def loadA (key n : Nat) (a : Word) (s : State) : Out :=
  onOk (memRead s a) fun v => done (s.setReg .a v) key n

/-- A byte stored at an address (R113, R114, R117, R118, R124, R127, R129). -/
def storeByte (key n : Nat) (a : Word) (v : Byte) (s : State) : Out :=
  onOk (memWrite s a v) fun t => done t key n

/-- `A` loaded from `HL`, then `HL` moved by `step` (R119, R120). -/
def loadAStepHL (key : Nat) (step : Word) (s : State) : Out :=
  onOk (memRead s (s.cpu.pair .hl)) fun v =>
    done ((s.setReg .a v).setPair .hl (s.cpu.pair .hl + step)) key 2

/-- `A` stored at `HL`, then `HL` moved by `step` (R121, R122). -/
def storeAStepHL (key : Nat) (step : Word) (s : State) : Out :=
  onOk (memWrite s (s.cpu.pair .hl) s.cpu.a) fun t =>
    done (t.setPair .hl (s.cpu.pair .hl + step)) key 2

/-- `LD (BC),A` (R117). -/
def execLdMBC_A (s : State) : Out := storeByte 0x02 2 (s.cpu.pair .bc) s.cpu.a s

/-- `LD B,d8` (R111). -/
def execLdB_d8 (d : Byte) (s : State) : Out := loadReg 0x06 2 .b (.imm d) s

/-- `LD A,(BC)` (R115). -/
def execLdA_MBC (s : State) : Out := loadA 0x0A 2 (s.cpu.pair .bc) s

/-- `LD C,d8` (R111). -/
def execLdC_d8 (d : Byte) (s : State) : Out := loadReg 0x0E 2 .c (.imm d) s

/-- `LD (DE),A` (R118). -/
def execLdMDE_A (s : State) : Out := storeByte 0x12 2 (s.cpu.pair .de) s.cpu.a s

/-- `LD D,d8` (R111). -/
def execLdD_d8 (d : Byte) (s : State) : Out := loadReg 0x16 2 .d (.imm d) s

/-- `LD A,(DE)` (R116). -/
def execLdA_MDE (s : State) : Out := loadA 0x1A 2 (s.cpu.pair .de) s

/-- `LD E,d8` (R111). -/
def execLdE_d8 (d : Byte) (s : State) : Out := loadReg 0x1E 2 .e (.imm d) s

/-- `LD (HL+),A` (R121). -/
def execLdMHLInc_A (s : State) : Out := storeAStepHL 0x22 1 s

/-- `LD H,d8` (R111). -/
def execLdH_d8 (d : Byte) (s : State) : Out := loadReg 0x26 2 .h (.imm d) s

/-- `LD A,(HL+)` (R119). -/
def execLdA_MHLInc (s : State) : Out := loadAStepHL 0x2A 1 s

/-- `LD L,d8` (R111). -/
def execLdL_d8 (d : Byte) (s : State) : Out := loadReg 0x2E 2 .l (.imm d) s

/-- `LD (HL-),A` (R122). -/
def execLdMHLDec_A (s : State) : Out := storeAStepHL 0x32 (-1) s

/-- `LD (HL),d8` (R114). -/
def execLdMHL_d8 (d : Byte) (s : State) : Out := storeByte 0x36 3 (s.cpu.pair .hl) d s

/-- `LD A,(HL-)` (R120). -/
def execLdA_MHLDec (s : State) : Out := loadAStepHL 0x3A (-1) s

/-- `LD A,d8` (R111). -/
def execLdA_d8 (d : Byte) (s : State) : Out := loadReg 0x3E 2 .a (.imm d) s

/-- `LD B,B` (R110). -/
def execLdB_B (s : State) : Out := loadReg 0x40 1 .b (.reg .b) s

/-- `LD B,C` (R110). -/
def execLdB_C (s : State) : Out := loadReg 0x41 1 .b (.reg .c) s

/-- `LD B,D` (R110). -/
def execLdB_D (s : State) : Out := loadReg 0x42 1 .b (.reg .d) s

/-- `LD B,E` (R110). -/
def execLdB_E (s : State) : Out := loadReg 0x43 1 .b (.reg .e) s

/-- `LD B,H` (R110). -/
def execLdB_H (s : State) : Out := loadReg 0x44 1 .b (.reg .h) s

/-- `LD B,L` (R110). -/
def execLdB_L (s : State) : Out := loadReg 0x45 1 .b (.reg .l) s

/-- `LD B,(HL)` (R112). -/
def execLdB_MHL (s : State) : Out := loadReg 0x46 2 .b .mem s

/-- `LD B,A` (R110). -/
def execLdB_A (s : State) : Out := loadReg 0x47 1 .b (.reg .a) s

/-- `LD C,B` (R110). -/
def execLdC_B (s : State) : Out := loadReg 0x48 1 .c (.reg .b) s

/-- `LD C,C` (R110). -/
def execLdC_C (s : State) : Out := loadReg 0x49 1 .c (.reg .c) s

/-- `LD C,D` (R110). -/
def execLdC_D (s : State) : Out := loadReg 0x4A 1 .c (.reg .d) s

/-- `LD C,E` (R110). -/
def execLdC_E (s : State) : Out := loadReg 0x4B 1 .c (.reg .e) s

/-- `LD C,H` (R110). -/
def execLdC_H (s : State) : Out := loadReg 0x4C 1 .c (.reg .h) s

/-- `LD C,L` (R110). -/
def execLdC_L (s : State) : Out := loadReg 0x4D 1 .c (.reg .l) s

/-- `LD C,(HL)` (R112). -/
def execLdC_MHL (s : State) : Out := loadReg 0x4E 2 .c .mem s

/-- `LD C,A` (R110). -/
def execLdC_A (s : State) : Out := loadReg 0x4F 1 .c (.reg .a) s

/-- `LD D,B` (R110). -/
def execLdD_B (s : State) : Out := loadReg 0x50 1 .d (.reg .b) s

/-- `LD D,C` (R110). -/
def execLdD_C (s : State) : Out := loadReg 0x51 1 .d (.reg .c) s

/-- `LD D,D` (R110). -/
def execLdD_D (s : State) : Out := loadReg 0x52 1 .d (.reg .d) s

/-- `LD D,E` (R110). -/
def execLdD_E (s : State) : Out := loadReg 0x53 1 .d (.reg .e) s

/-- `LD D,H` (R110). -/
def execLdD_H (s : State) : Out := loadReg 0x54 1 .d (.reg .h) s

/-- `LD D,L` (R110). -/
def execLdD_L (s : State) : Out := loadReg 0x55 1 .d (.reg .l) s

/-- `LD D,(HL)` (R112). -/
def execLdD_MHL (s : State) : Out := loadReg 0x56 2 .d .mem s

/-- `LD D,A` (R110). -/
def execLdD_A (s : State) : Out := loadReg 0x57 1 .d (.reg .a) s

/-- `LD E,B` (R110). -/
def execLdE_B (s : State) : Out := loadReg 0x58 1 .e (.reg .b) s

/-- `LD E,C` (R110). -/
def execLdE_C (s : State) : Out := loadReg 0x59 1 .e (.reg .c) s

/-- `LD E,D` (R110). -/
def execLdE_D (s : State) : Out := loadReg 0x5A 1 .e (.reg .d) s

/-- `LD E,E` (R110). -/
def execLdE_E (s : State) : Out := loadReg 0x5B 1 .e (.reg .e) s

/-- `LD E,H` (R110). -/
def execLdE_H (s : State) : Out := loadReg 0x5C 1 .e (.reg .h) s

/-- `LD E,L` (R110). -/
def execLdE_L (s : State) : Out := loadReg 0x5D 1 .e (.reg .l) s

/-- `LD E,(HL)` (R112). -/
def execLdE_MHL (s : State) : Out := loadReg 0x5E 2 .e .mem s

/-- `LD E,A` (R110). -/
def execLdE_A (s : State) : Out := loadReg 0x5F 1 .e (.reg .a) s

/-- `LD H,B` (R110). -/
def execLdH_B (s : State) : Out := loadReg 0x60 1 .h (.reg .b) s

/-- `LD H,C` (R110). -/
def execLdH_C (s : State) : Out := loadReg 0x61 1 .h (.reg .c) s

/-- `LD H,D` (R110). -/
def execLdH_D (s : State) : Out := loadReg 0x62 1 .h (.reg .d) s

/-- `LD H,E` (R110). -/
def execLdH_E (s : State) : Out := loadReg 0x63 1 .h (.reg .e) s

/-- `LD H,H` (R110). -/
def execLdH_H (s : State) : Out := loadReg 0x64 1 .h (.reg .h) s

/-- `LD H,L` (R110). -/
def execLdH_L (s : State) : Out := loadReg 0x65 1 .h (.reg .l) s

/-- `LD H,(HL)` (R112). -/
def execLdH_MHL (s : State) : Out := loadReg 0x66 2 .h .mem s

/-- `LD H,A` (R110). -/
def execLdH_A (s : State) : Out := loadReg 0x67 1 .h (.reg .a) s

/-- `LD L,B` (R110). -/
def execLdL_B (s : State) : Out := loadReg 0x68 1 .l (.reg .b) s

/-- `LD L,C` (R110). -/
def execLdL_C (s : State) : Out := loadReg 0x69 1 .l (.reg .c) s

/-- `LD L,D` (R110). -/
def execLdL_D (s : State) : Out := loadReg 0x6A 1 .l (.reg .d) s

/-- `LD L,E` (R110). -/
def execLdL_E (s : State) : Out := loadReg 0x6B 1 .l (.reg .e) s

/-- `LD L,H` (R110). -/
def execLdL_H (s : State) : Out := loadReg 0x6C 1 .l (.reg .h) s

/-- `LD L,L` (R110). -/
def execLdL_L (s : State) : Out := loadReg 0x6D 1 .l (.reg .l) s

/-- `LD L,(HL)` (R112). -/
def execLdL_MHL (s : State) : Out := loadReg 0x6E 2 .l .mem s

/-- `LD L,A` (R110). -/
def execLdL_A (s : State) : Out := loadReg 0x6F 1 .l (.reg .a) s

/-- `LD (HL),B` (R113). -/
def execLdMHL_B (s : State) : Out := storeByte 0x70 2 (s.cpu.pair .hl) (s.cpu.reg .b) s

/-- `LD (HL),C` (R113). -/
def execLdMHL_C (s : State) : Out := storeByte 0x71 2 (s.cpu.pair .hl) (s.cpu.reg .c) s

/-- `LD (HL),D` (R113). -/
def execLdMHL_D (s : State) : Out := storeByte 0x72 2 (s.cpu.pair .hl) (s.cpu.reg .d) s

/-- `LD (HL),E` (R113). -/
def execLdMHL_E (s : State) : Out := storeByte 0x73 2 (s.cpu.pair .hl) (s.cpu.reg .e) s

/-- `LD (HL),H` (R113). -/
def execLdMHL_H (s : State) : Out := storeByte 0x74 2 (s.cpu.pair .hl) (s.cpu.reg .h) s

/-- `LD (HL),L` (R113). -/
def execLdMHL_L (s : State) : Out := storeByte 0x75 2 (s.cpu.pair .hl) (s.cpu.reg .l) s

/-- `LD (HL),A` (R113). -/
def execLdMHL_A (s : State) : Out := storeByte 0x77 2 (s.cpu.pair .hl) (s.cpu.reg .a) s

/-- `LD A,B` (R110). -/
def execLdA_B (s : State) : Out := loadReg 0x78 1 .a (.reg .b) s

/-- `LD A,C` (R110). -/
def execLdA_C (s : State) : Out := loadReg 0x79 1 .a (.reg .c) s

/-- `LD A,D` (R110). -/
def execLdA_D (s : State) : Out := loadReg 0x7A 1 .a (.reg .d) s

/-- `LD A,E` (R110). -/
def execLdA_E (s : State) : Out := loadReg 0x7B 1 .a (.reg .e) s

/-- `LD A,H` (R110). -/
def execLdA_H (s : State) : Out := loadReg 0x7C 1 .a (.reg .h) s

/-- `LD A,L` (R110). -/
def execLdA_L (s : State) : Out := loadReg 0x7D 1 .a (.reg .l) s

/-- `LD A,(HL)` (R112). -/
def execLdA_MHL (s : State) : Out := loadReg 0x7E 2 .a .mem s

/-- `LD A,A` (R110). -/
def execLdA_A (s : State) : Out := loadReg 0x7F 1 .a (.reg .a) s

/-- `LDH (a8),A` (R127). -/
def execLdhMa8_A (o : Byte) (s : State) : Out := storeByte 0xE0 3 (highPage o) s.cpu.a s

/-- `LD (C),A` (R129). -/
def execLdMC_A (s : State) : Out := storeByte 0xE2 2 (highPage s.cpu.c) s.cpu.a s

/-- `LD (a16),A` (R124). -/
def execLdMa16_A (addr : Word) (s : State) : Out := storeByte 0xEA 4 addr s.cpu.a s

/-- `LDH A,(a8)` (R126). -/
def execLdhA_Ma8 (o : Byte) (s : State) : Out := loadA 0xF0 3 (highPage o) s

/-- `LD A,(C)` (R128). -/
def execLdA_MC (s : State) : Out := loadA 0xF2 2 (highPage s.cpu.c) s

/-- `LD A,(a16)` (R123). -/
def execLdA_Ma16 (addr : Word) (s : State) : Out := loadA 0xFA 4 addr s

end Sys2Proof.Machine
end

