-- ==== Sys2Proof/Machine/Rotate.lean ====
section
/-! DEFINITION. The meanings of the accumulator rotates of the primary page (`44_rotate_shift_bit.md` R200 to R203). The fetch is over: `PC` points past the instruction. -/

namespace Sys2Proof.Machine

/-- An accumulator rotate (R200 to R203): as the secondary page's, but `Z` is cleared. -/
def rotateA (key : Nat) (op : RotOp) (s : State) : Out :=
  let r := rotate8 op s.cpu.a s.cpu.flags.c
  done ((s.setReg .a r.1).setFlags { z := false, n := false, h := false, c := r.2 }) key 1

/-- `RLCA` (R200). -/
def execRlca (s : State) : Out := rotateA 0x07 .rlc s

/-- `RRCA` (R201). -/
def execRrca (s : State) : Out := rotateA 0x0F .rrc s

/-- `RLA` (R202). -/
def execRla (s : State) : Out := rotateA 0x17 .rl s

/-- `RRA` (R203). -/
def execRra (s : State) : Out := rotateA 0x1F .rr s

end Sys2Proof.Machine
end

