-- ==== Sys2Proof/Machine/System.lean ====
section
/-! DEFINITION. The meanings of system instructions, the prefix and the undefined opcodes (`46_system.md` R245 to R251). The fetch is over: `PC` points past the instruction. -/

namespace Sys2Proof.Machine

/-- `NOP` (R245). -/
def noOperation (key : Nat) (s : State) : Out := done s key 1

/-- `HALT` (R246), also the synthetic one of a halted step. -/
def halt (key : Nat) (s : State) : Out := done (s.setMode .halted) key 1

/-- `DI` (R248) and `EI` (R249): at once. -/
def setIme (key : Nat) (v : Bool) (s : State) : Out := done (s.setIme v) key 1

/-- An undefined opcode (R251): a no-op of cost `UNDEF_COST`, default 1. -/
def undefinedOp (key : Nat) (s : State) : Out := done s key 1

/-- `STOP` treated as an undefined opcode, the total model's choice that R247 allows (DESIGN CHOICE, log 7). -/
def stopAsNop (key : Nat) (s : State) : Out := undefinedOp key s

/-- The prefix with its second byte (R250): the secondary-page instruction that byte selects. -/
def prefixed (op2 : Byte) (s : State) : Out := secondary op2 s

/-- `NOP` (R245). -/
def execNop (s : State) : Out := noOperation 0x00 s

/-- `STOP` (R247). -/
def execStop (s : State) : Out := stopAsNop 0x10 s

/-- `HALT` (R246). -/
def execHalt (s : State) : Out := halt 0x76 s

/-- `PREFIX CB` (R250). -/
def execPrefixCB (op2 : Byte) (s : State) : Out := prefixed op2 s

/-- `undefined 0xD3` (R251). -/
def execUndefinedD3 (s : State) : Out := undefinedOp 0xD3 s

/-- `undefined 0xDB` (R251). -/
def execUndefinedDB (s : State) : Out := undefinedOp 0xDB s

/-- `undefined 0xDD` (R251). -/
def execUndefinedDD (s : State) : Out := undefinedOp 0xDD s

/-- `undefined 0xE3` (R251). -/
def execUndefinedE3 (s : State) : Out := undefinedOp 0xE3 s

/-- `undefined 0xE4` (R251). -/
def execUndefinedE4 (s : State) : Out := undefinedOp 0xE4 s

/-- `undefined 0xEB` (R251). -/
def execUndefinedEB (s : State) : Out := undefinedOp 0xEB s

/-- `undefined 0xEC` (R251). -/
def execUndefinedEC (s : State) : Out := undefinedOp 0xEC s

/-- `undefined 0xED` (R251). -/
def execUndefinedED (s : State) : Out := undefinedOp 0xED s

/-- `DI` (R248). -/
def execDi (s : State) : Out := setIme 0xF3 false s

/-- `undefined 0xF4` (R251). -/
def execUndefinedF4 (s : State) : Out := undefinedOp 0xF4 s

/-- `EI` (R249). -/
def execEi (s : State) : Out := setIme 0xFB true s

/-- `undefined 0xFC` (R251). -/
def execUndefinedFC (s : State) : Out := undefinedOp 0xFC s

/-- `undefined 0xFD` (R251). -/
def execUndefinedFD (s : State) : Out := undefinedOp 0xFD s

end Sys2Proof.Machine
end

