-- ==== Sys2Proof/Machine/Fetch.lean ====
section
/-! DEFINITION. Fetching one instruction (R15, R87, R91, R94): the opcode byte, then as many bytes as its length asks for,
each by `Fetch8`, and the decoder's answer. -/

namespace Sys2Proof.Machine

/-- Fetch and decode the instruction at `PC`; `PC` then points past it. -/
def fetchInstr (s : State) : Except Refusal (Instr × State) :=
  match fetch8 s with
  | .error r => .error r
  | .ok (b0, s1) =>
    match lengthOf b0 with
    | 1 => .ok (decode3 b0 0#8 0#8, s1)
    | 2 =>
      match fetch8 s1 with
      | .error r => .error r
      | .ok (b1, s2) => .ok (decode3 b0 b1 0#8, s2)
    | _ =>
      match fetch8 s1 with
      | .error r => .error r
      | .ok (b1, s2) =>
        match fetch8 s2 with
        | .error r => .error r
        | .ok (b2, s3) => .ok (decode3 b0 b1 b2, s3)

end Sys2Proof.Machine
end

