-- ==== Sys2Proof/Machine/Step.lean ====
section
/-! DEFINITION. The step of the machine (R260, R261): one instruction, or one synthetic halt, with the subsystems and the
interrupt half after it; and how the host places one instruction to be run. -/

namespace Sys2Proof.Machine

/-- The instruction part of a step: in HALTED mode the synthetic `HALT` with no fetch (R246), else the instruction at
`PC`. -/
def runInstr (s : State) : Out :=
  match s.cpu.mode with
  | .halted => exec .halt s
  | .running => onOk (fetchInstr s) fun r => exec r.1 r.2

/-- One step (R261). -/
def step (s : State) : Host.Outcome State Fault Refusal := thenDo (runInstr (beginStep s)) (finishStep (penalty s))

/-- `s` with the instruction of a table word where `step` fetches next. In the fixed ROM window and in work RAM it is
stored at `PC`; elsewhere `PC` moves to work RAM at 0xC000 first, since those addresses need not be storage. The run mode
is RUNNING (log 13). -/
def State.withFetchWord (s : State) (nbits w : Nat) : State :=
  let t := tableBytes nbits w
  let put (m : Memory) (k : Nat) : Memory := ((m.write k t.1).write (k + 1) t.2.1).write (k + 2) t.2.2
  let s := s.setMode .running
  let n := s.cpu.pc.toNat
  if n + 2 < 0x4000 then { s with cart := { s.cart with rom := put s.cart.rom n } }
  else if 0xC000 ≤ n ∧ n + 2 < 0xE000 then { s with ram := put s.ram n }
  else { s.setPc 0xC000#16 with ram := put s.ram 0xC000 }

end Sys2Proof.Machine
end

