-- ==== Sys2Proof/Claims.lean ====
section
/-! DEFINITION. The words the claims use: which bus accesses are answered, which addresses are plain storage, and which
addresses an instruction stores to. No meaning uses them. -/

namespace Sys2Proof.Machine

/-- A bus read of 0x0000 to 0x7FFF is answered: only an MBC3-style bank outside the image is not (R77). -/
def Cart.romAnswers (c : Cart) (a : Nat) : Bool :=
  match c.ctrl with
  | .none => true
  | .mbc1 _ => true
  | .mbc3 r => decide (a < 0x4000) || decide (romOffset r.romBank.toNat a < c.bankCount * 0x4000)

/-- A bus access of 0xA000 to 0xBFFF is answered: only an enabled bank outside the buffer is not (R75, R77). -/
def Cart.xramAnswers (c : Cart) (a : Nat) : Bool :=
  match c.ramBankOpen with
  | none => true
  | some b => decide (b * 0x2000 + (a - 0xA000) < c.ramSize)

/-- The bus answers a read of `a`. -/
def State.readable (s : State) (a : Word) : Bool :=
  if a.toNat < 0x8000 then s.cart.romAnswers a.toNat
  else if 0xA000 ≤ a.toNat ∧ a.toNat < 0xC000 then s.cart.xramAnswers a.toNat
  else true

/-- The bus answers a write of `a`. -/
def State.writable (s : State) (a : Word) : Bool :=
  if 0xA000 ≤ a.toNat ∧ a.toNat < 0xC000 then s.cart.xramAnswers a.toNat else true

/-- `a` is plain byte storage of the machine: video RAM, work RAM, echo RAM, OAM, the unused gap or high RAM (R44 to
R46). -/
def plainStorage (a : Word) : Bool :=
  (decide (0x8000 ≤ a.toNat) && decide (a.toNat < 0xA000)) ||
  (decide (0xC000 ≤ a.toNat) && decide (a.toNat < 0xFF00)) ||
  (decide (0xFF80 ≤ a.toNat) && decide (a.toNat < 0xFFFF))

/-- The two addresses a push writes, the first of them first. -/
def pushAddrs (s : State) : List Word := [s.cpu.sp - 1#16, s.cpu.sp - 2#16]

/-- The addresses an instruction stores to, computed from the state in which it executes (its operand bytes fetched). -/
def storedAddrs (i : Instr) (s : State) : List Word :=
  match i with
  | .ldMBC_A => [s.cpu.pair .bc]
  | .ldMDE_A => [s.cpu.pair .de]
  | .ldMHL_d8 _ => [s.cpu.pair .hl]
  | .ldMHLInc_A | .ldMHLDec_A | .ldMHL_B | .ldMHL_C | .ldMHL_D | .ldMHL_E | .ldMHL_H | .ldMHL_L | .ldMHL_A | .incMHL | .decMHL => [s.cpu.pair .hl]
  | .ldhMa8_A o => [highPage o]
  | .ldMC_A => [highPage s.cpu.c]
  | .ldMa16_A addr => [addr]
  | .ldMa16_SP addr => [addr, addr + 1#16]
  | .pushBC | .pushDE | .pushHL | .pushAF => pushAddrs s
  | .call_a16 _ => pushAddrs s
  | .rst00 | .rst08 | .rst10 | .rst18 | .rst20 | .rst28 | .rst30 | .rst38 => pushAddrs s
  | .callNZ_a16 _ => if s.cpu.holds .nz then pushAddrs s else []
  | .callZ_a16 _ => if s.cpu.holds .z then pushAddrs s else []
  | .callNC_a16 _ => if s.cpu.holds .nc then pushAddrs s else []
  | .callC_a16 _ => if s.cpu.holds .c then pushAddrs s else []
  | .rlcMHL | .rrcMHL | .rlMHL | .rrMHL | .slaMHL | .sraMHL | .swapMHL | .srlMHL
  | .res0_MHL | .res1_MHL | .res2_MHL | .res3_MHL | .res4_MHL | .res5_MHL | .res6_MHL | .res7_MHL
  | .set0_MHL | .set1_MHL | .set2_MHL | .set3_MHL | .set4_MHL | .set5_MHL | .set6_MHL | .set7_MHL => [s.cpu.pair .hl]
  | .prefixCB op2 => if op2.toNat % 8 = 6 ∧ op2.toNat / 64 ≠ 1 then [s.cpu.pair .hl] else []
  | _ => []

/-- Pushing the word `v` in state `s` leaves `t` in memory and devices: the high byte written at `SP-1`, then the low byte at
`SP-2`. `SP` itself is not moved in `t`. -/
def Pushed (s : State) (v : Word) (t : State) : Prop :=
  ∃ u, memWrite s (s.cpu.sp - 1#16) (hiByte v) = .ok u ∧ memWrite u (s.cpu.sp - 2#16) (loByte v) = .ok t

/-- The word at the top of the stack: low byte at `SP`, high byte at `SP+1`. -/
def Popped (s : State) (v : Word) : Prop :=
  ∃ lo hi, memRead s s.cpu.sp = .ok lo ∧ memRead s (s.cpu.sp + 1#16) = .ok hi ∧ v = word hi lo

/-- The bus answers both writes of a push. -/
def State.canPush (s : State) : Bool := s.writable (s.cpu.sp - 1#16) && s.writable (s.cpu.sp - 2#16)

/-- The bus answers both reads of a pop. -/
def State.canPop (s : State) : Bool := s.readable s.cpu.sp && s.readable (s.cpu.sp + 1#16)

/-- The stack slot a push writes is plain storage, two locations of it. -/
def State.plainStack (s : State) : Bool :=
  plainStorage (s.cpu.sp - 1#16) && plainStorage (s.cpu.sp - 2#16) &&
  decide (ramHome s.params (s.cpu.sp - 1#16) ≠ ramHome s.params (s.cpu.sp - 2#16))

/-- What a rotate or shift makes of its operand `v` (0 to 255) and the old carry `cf` (0 or 1), in plain arithmetic
(R205 to R212). -/
def rotated (op : RotOp) (v cf : Nat) : Nat :=
  match op with
  | .rlc => v * 2 % 256 + v / 128
  | .rrc => v / 2 + v % 2 * 128
  | .rl => v * 2 % 256 + cf
  | .rr => v / 2 + cf * 128
  | .sla => v * 2 % 256
  | .sra => v / 2 + v / 128 * 128
  | .swap => v % 16 * 16 + v / 16
  | .srl => v / 2

/-- The bit a rotate or shift puts in `CF` (R205 to R212). -/
def rotatedOut (op : RotOp) (v : Nat) : Nat :=
  match op with
  | .rlc | .rl | .sla => v / 128
  | .rrc | .rr | .sra | .srl => v % 2
  | .swap => 0

/-- The flag record whose flags hold exactly when the four propositions do. -/
def flagsOf (z n h c : Prop) [Decidable z] [Decidable n] [Decidable h] [Decidable c] : Flags :=
  { z := decide z, n := decide n, h := decide h, c := decide c }

/-- Two decimal digits in one byte: the binary-coded form of `n < 100`. -/
def bcd (n : Nat) : Byte := BitVec.ofNat 8 (n / 10 * 16 + n % 10)

end Sys2Proof.Machine
end

