-- ==== Sys2Proof/Forms.lean ====
section
/-! DEFINITION. The instructions of one form, by their operand fields (R93, R95 to R99): each function names, for every
value of its fields, the constructor of `Instr` that has them. Statements range over instructions with these. -/

namespace Sys2Proof

/-- The index of a register in an 8-bit operand field `r` (R7, R93). -/
def Reg.code : Reg → BitVec 3
  | .b => 0#3 | .c => 1#3 | .d => 2#3 | .e => 3#3 | .h => 4#3 | .l => 5#3 | .a => 7#3

/-- The index of a secondary-page operand in its field `r` (R93): 6 is the byte at `HL`. -/
def Operand8.code : Operand8 → BitVec 3
  | .reg r => r.code
  | .mem => 6#3

/-- The index of a pair `rr` (R93). -/
def Pair.code : Pair → BitVec 2
  | .bc => 0#2 | .de => 1#2 | .hl => 2#2 | .sp => 3#2

/-- The index of a stack pair `rs` (R93). -/
def StackPair.code : StackPair → BitVec 2
  | .bc => 0#2 | .de => 1#2 | .hl => 2#2 | .af => 3#2

/-- The index of a condition `cc` (R93). -/
def Cond.code : Cond → BitVec 2
  | .nz => 0#2 | .z => 1#2 | .nc => 2#2 | .c => 3#2

/-- The index of an accumulator operation `alu` (R93). -/
def AluOp.code : AluOp → BitVec 3
  | .add => 0#3 | .adc => 1#3 | .sub => 2#3 | .sbc => 3#3 | .and => 4#3 | .xor => 5#3 | .or => 6#3 | .cp => 7#3

/-- The index of a rotate or shift `rot` (R93). -/
def RotOp.code : RotOp → BitVec 3
  | .rlc => 0#3 | .rrc => 1#3 | .rl => 2#3 | .rr => 3#3 | .sla => 4#3 | .sra => 5#3 | .swap => 6#3 | .srl => 7#3

/-- The index of a bit number (R92). -/
def BitNo.code : BitNo → BitVec 3
  | .n0 => 0#3 | .n1 => 1#3 | .n2 => 2#3 | .n3 => 3#3 | .n4 => 4#3 | .n5 => 5#3 | .n6 => 6#3 | .n7 => 7#3

end Sys2Proof

namespace Sys2Proof.Form

/-- `LD r[y],r[z]` (R110) -/
def loadReg (y z : Reg) : Instr :=
  match y, z with
  | .b, .b => .ldB_B
  | .b, .c => .ldB_C
  | .b, .d => .ldB_D
  | .b, .e => .ldB_E
  | .b, .h => .ldB_H
  | .b, .l => .ldB_L
  | .b, .a => .ldB_A
  | .c, .b => .ldC_B
  | .c, .c => .ldC_C
  | .c, .d => .ldC_D
  | .c, .e => .ldC_E
  | .c, .h => .ldC_H
  | .c, .l => .ldC_L
  | .c, .a => .ldC_A
  | .d, .b => .ldD_B
  | .d, .c => .ldD_C
  | .d, .d => .ldD_D
  | .d, .e => .ldD_E
  | .d, .h => .ldD_H
  | .d, .l => .ldD_L
  | .d, .a => .ldD_A
  | .e, .b => .ldE_B
  | .e, .c => .ldE_C
  | .e, .d => .ldE_D
  | .e, .e => .ldE_E
  | .e, .h => .ldE_H
  | .e, .l => .ldE_L
  | .e, .a => .ldE_A
  | .h, .b => .ldH_B
  | .h, .c => .ldH_C
  | .h, .d => .ldH_D
  | .h, .e => .ldH_E
  | .h, .h => .ldH_H
  | .h, .l => .ldH_L
  | .h, .a => .ldH_A
  | .l, .b => .ldL_B
  | .l, .c => .ldL_C
  | .l, .d => .ldL_D
  | .l, .e => .ldL_E
  | .l, .h => .ldL_H
  | .l, .l => .ldL_L
  | .l, .a => .ldL_A
  | .a, .b => .ldA_B
  | .a, .c => .ldA_C
  | .a, .d => .ldA_D
  | .a, .e => .ldA_E
  | .a, .h => .ldA_H
  | .a, .l => .ldA_L
  | .a, .a => .ldA_A

/-- `LD r[y],d8` (R111) -/
def loadImm (y : Reg) (d : Byte) : Instr :=
  match y with
  | .b => .ldB_d8 d
  | .c => .ldC_d8 d
  | .d => .ldD_d8 d
  | .e => .ldE_d8 d
  | .h => .ldH_d8 d
  | .l => .ldL_d8 d
  | .a => .ldA_d8 d

/-- `LD r[y],(HL)` (R112) -/
def loadAtHL (y : Reg) : Instr :=
  match y with
  | .b => .ldB_MHL
  | .c => .ldC_MHL
  | .d => .ldD_MHL
  | .e => .ldE_MHL
  | .h => .ldH_MHL
  | .l => .ldL_MHL
  | .a => .ldA_MHL

/-- `LD (HL),r[z]` (R113) -/
def storeAtHL (z : Reg) : Instr :=
  match z with
  | .b => .ldMHL_B
  | .c => .ldMHL_C
  | .d => .ldMHL_D
  | .e => .ldMHL_E
  | .h => .ldMHL_H
  | .l => .ldMHL_L
  | .a => .ldMHL_A

/-- `alu[y] A,r[z]` (R97) -/
def aluReg (op : AluOp) (z : Reg) : Instr :=
  match op, z with
  | .add, .b => .addA_B
  | .add, .c => .addA_C
  | .add, .d => .addA_D
  | .add, .e => .addA_E
  | .add, .h => .addA_H
  | .add, .l => .addA_L
  | .add, .a => .addA_A
  | .adc, .b => .adcA_B
  | .adc, .c => .adcA_C
  | .adc, .d => .adcA_D
  | .adc, .e => .adcA_E
  | .adc, .h => .adcA_H
  | .adc, .l => .adcA_L
  | .adc, .a => .adcA_A
  | .sub, .b => .subA_B
  | .sub, .c => .subA_C
  | .sub, .d => .subA_D
  | .sub, .e => .subA_E
  | .sub, .h => .subA_H
  | .sub, .l => .subA_L
  | .sub, .a => .subA_A
  | .sbc, .b => .sbcA_B
  | .sbc, .c => .sbcA_C
  | .sbc, .d => .sbcA_D
  | .sbc, .e => .sbcA_E
  | .sbc, .h => .sbcA_H
  | .sbc, .l => .sbcA_L
  | .sbc, .a => .sbcA_A
  | .and, .b => .andA_B
  | .and, .c => .andA_C
  | .and, .d => .andA_D
  | .and, .e => .andA_E
  | .and, .h => .andA_H
  | .and, .l => .andA_L
  | .and, .a => .andA_A
  | .xor, .b => .xorA_B
  | .xor, .c => .xorA_C
  | .xor, .d => .xorA_D
  | .xor, .e => .xorA_E
  | .xor, .h => .xorA_H
  | .xor, .l => .xorA_L
  | .xor, .a => .xorA_A
  | .or, .b => .orA_B
  | .or, .c => .orA_C
  | .or, .d => .orA_D
  | .or, .e => .orA_E
  | .or, .h => .orA_H
  | .or, .l => .orA_L
  | .or, .a => .orA_A
  | .cp, .b => .cpA_B
  | .cp, .c => .cpA_C
  | .cp, .d => .cpA_D
  | .cp, .e => .cpA_E
  | .cp, .h => .cpA_H
  | .cp, .l => .cpA_L
  | .cp, .a => .cpA_A

/-- `alu[y] A,(HL)` (R97) -/
def aluAtHL (op : AluOp) : Instr :=
  match op with
  | .add => .addA_MHL
  | .adc => .adcA_MHL
  | .sub => .subA_MHL
  | .sbc => .sbcA_MHL
  | .and => .andA_MHL
  | .xor => .xorA_MHL
  | .or => .orA_MHL
  | .cp => .cpA_MHL

/-- `alu[y] A,d8` (R98) -/
def aluImm (op : AluOp) (d : Byte) : Instr :=
  match op with
  | .add => .addA_d8 d
  | .adc => .adcA_d8 d
  | .sub => .subA_d8 d
  | .sbc => .sbcA_d8 d
  | .and => .andA_d8 d
  | .xor => .xorA_d8 d
  | .or => .orA_d8 d
  | .cp => .cpA_d8 d

/-- The accumulator operation `alu[y]` on any of its three operand forms (R156). -/
def alu (op : AluOp) : Source8 → Instr
  | .reg r => aluReg op r
  | .mem => aluAtHL op
  | .imm d => aluImm op d

/-- `INC r[y]` (R165) -/
def incReg (y : Reg) : Instr :=
  match y with
  | .b => .incB
  | .c => .incC
  | .d => .incD
  | .e => .incE
  | .h => .incH
  | .l => .incL
  | .a => .incA

/-- `DEC r[y]` (R167) -/
def decReg (y : Reg) : Instr :=
  match y with
  | .b => .decB
  | .c => .decC
  | .d => .decD
  | .e => .decE
  | .h => .decH
  | .l => .decL
  | .a => .decA

/-- `LD rr[p],d16` (R140) -/
def loadPair (p : Pair) (v : Word) : Instr :=
  match p with
  | .bc => .ldBC_d16 v
  | .de => .ldDE_d16 v
  | .hl => .ldHL_d16 v
  | .sp => .ldSP_d16 v

/-- `ADD HL,rr[p]` (R190) -/
def addHL (p : Pair) : Instr :=
  match p with
  | .bc => .addHL_BC
  | .de => .addHL_DE
  | .hl => .addHL_HL
  | .sp => .addHL_SP

/-- `INC rr[p]` (R191) -/
def incPair (p : Pair) : Instr :=
  match p with
  | .bc => .incBC
  | .de => .incDE
  | .hl => .incHL
  | .sp => .incSP

/-- `DEC rr[p]` (R192) -/
def decPair (p : Pair) : Instr :=
  match p with
  | .bc => .decBC
  | .de => .decDE
  | .hl => .decHL
  | .sp => .decSP

/-- `PUSH rs[p]` (R143) -/
def push (p : StackPair) : Instr :=
  match p with
  | .bc => .pushBC
  | .de => .pushDE
  | .hl => .pushHL
  | .af => .pushAF

/-- `POP rs[p]` (R144) -/
def pop (p : StackPair) : Instr :=
  match p with
  | .bc => .popBC
  | .de => .popDE
  | .hl => .popHL
  | .af => .popAF

/-- `JP cc[y],a16` (R226) -/
def jumpIf (cc : Cond) (addr : Word) : Instr :=
  match cc with
  | .nz => .jpNZ_a16 addr
  | .z => .jpZ_a16 addr
  | .nc => .jpNC_a16 addr
  | .c => .jpC_a16 addr

/-- `JR cc[y-4],e8` (R229) -/
def jumpRelativeIf (cc : Cond) (e : Byte) : Instr :=
  match cc with
  | .nz => .jrNZ_e8 e
  | .z => .jrZ_e8 e
  | .nc => .jrNC_e8 e
  | .c => .jrC_e8 e

/-- `CALL cc[y],a16` (R231) -/
def callIf (cc : Cond) (addr : Word) : Instr :=
  match cc with
  | .nz => .callNZ_a16 addr
  | .z => .callZ_a16 addr
  | .nc => .callNC_a16 addr
  | .c => .callC_a16 addr

/-- `RET cc[y]` (R233) -/
def retIf (cc : Cond) : Instr :=
  match cc with
  | .nz => .retNZ
  | .z => .retZ
  | .nc => .retNC
  | .c => .retC

/-- `RST y*8` (R236) -/
def restart (y : BitNo) : Instr :=
  match y with
  | .n0 => .rst00
  | .n1 => .rst08
  | .n2 => .rst10
  | .n3 => .rst18
  | .n4 => .rst20
  | .n5 => .rst28
  | .n6 => .rst30
  | .n7 => .rst38

/-- The four accumulator rotates of the primary page (R200 to R203); the other four have none -/
def rotateA (op : RotOp) : Option Instr :=
  match op with
  | .rlc => some .rlca
  | .rrc => some .rrca
  | .rl => some .rla
  | .rr => some .rra
  | .sla => none
  | .sra => none
  | .swap => none
  | .srl => none

/-- `rot[y] r[z]` of the secondary page (R205 to R212) -/
def rotate (op : RotOp) (o : Operand8) : Instr :=
  match op, o with
  | .rlc, .reg .b => .rlcB
  | .rlc, .reg .c => .rlcC
  | .rlc, .reg .d => .rlcD
  | .rlc, .reg .e => .rlcE
  | .rlc, .reg .h => .rlcH
  | .rlc, .reg .l => .rlcL
  | .rlc, .mem => .rlcMHL
  | .rlc, .reg .a => .rlcA
  | .rrc, .reg .b => .rrcB
  | .rrc, .reg .c => .rrcC
  | .rrc, .reg .d => .rrcD
  | .rrc, .reg .e => .rrcE
  | .rrc, .reg .h => .rrcH
  | .rrc, .reg .l => .rrcL
  | .rrc, .mem => .rrcMHL
  | .rrc, .reg .a => .rrcA
  | .rl, .reg .b => .rlB
  | .rl, .reg .c => .rlC
  | .rl, .reg .d => .rlD
  | .rl, .reg .e => .rlE
  | .rl, .reg .h => .rlH
  | .rl, .reg .l => .rlL
  | .rl, .mem => .rlMHL
  | .rl, .reg .a => .rlA
  | .rr, .reg .b => .rrB
  | .rr, .reg .c => .rrC
  | .rr, .reg .d => .rrD
  | .rr, .reg .e => .rrE
  | .rr, .reg .h => .rrH
  | .rr, .reg .l => .rrL
  | .rr, .mem => .rrMHL
  | .rr, .reg .a => .rrA
  | .sla, .reg .b => .slaB
  | .sla, .reg .c => .slaC
  | .sla, .reg .d => .slaD
  | .sla, .reg .e => .slaE
  | .sla, .reg .h => .slaH
  | .sla, .reg .l => .slaL
  | .sla, .mem => .slaMHL
  | .sla, .reg .a => .slaA
  | .sra, .reg .b => .sraB
  | .sra, .reg .c => .sraC
  | .sra, .reg .d => .sraD
  | .sra, .reg .e => .sraE
  | .sra, .reg .h => .sraH
  | .sra, .reg .l => .sraL
  | .sra, .mem => .sraMHL
  | .sra, .reg .a => .sraA
  | .swap, .reg .b => .swapB
  | .swap, .reg .c => .swapC
  | .swap, .reg .d => .swapD
  | .swap, .reg .e => .swapE
  | .swap, .reg .h => .swapH
  | .swap, .reg .l => .swapL
  | .swap, .mem => .swapMHL
  | .swap, .reg .a => .swapA
  | .srl, .reg .b => .srlB
  | .srl, .reg .c => .srlC
  | .srl, .reg .d => .srlD
  | .srl, .reg .e => .srlE
  | .srl, .reg .h => .srlH
  | .srl, .reg .l => .srlL
  | .srl, .mem => .srlMHL
  | .srl, .reg .a => .srlA

/-- `BIT y,r[z]` (R213) -/
def bit (n : BitNo) (o : Operand8) : Instr :=
  match n, o with
  | .n0, .reg .b => .bit0_B
  | .n0, .reg .c => .bit0_C
  | .n0, .reg .d => .bit0_D
  | .n0, .reg .e => .bit0_E
  | .n0, .reg .h => .bit0_H
  | .n0, .reg .l => .bit0_L
  | .n0, .mem => .bit0_MHL
  | .n0, .reg .a => .bit0_A
  | .n1, .reg .b => .bit1_B
  | .n1, .reg .c => .bit1_C
  | .n1, .reg .d => .bit1_D
  | .n1, .reg .e => .bit1_E
  | .n1, .reg .h => .bit1_H
  | .n1, .reg .l => .bit1_L
  | .n1, .mem => .bit1_MHL
  | .n1, .reg .a => .bit1_A
  | .n2, .reg .b => .bit2_B
  | .n2, .reg .c => .bit2_C
  | .n2, .reg .d => .bit2_D
  | .n2, .reg .e => .bit2_E
  | .n2, .reg .h => .bit2_H
  | .n2, .reg .l => .bit2_L
  | .n2, .mem => .bit2_MHL
  | .n2, .reg .a => .bit2_A
  | .n3, .reg .b => .bit3_B
  | .n3, .reg .c => .bit3_C
  | .n3, .reg .d => .bit3_D
  | .n3, .reg .e => .bit3_E
  | .n3, .reg .h => .bit3_H
  | .n3, .reg .l => .bit3_L
  | .n3, .mem => .bit3_MHL
  | .n3, .reg .a => .bit3_A
  | .n4, .reg .b => .bit4_B
  | .n4, .reg .c => .bit4_C
  | .n4, .reg .d => .bit4_D
  | .n4, .reg .e => .bit4_E
  | .n4, .reg .h => .bit4_H
  | .n4, .reg .l => .bit4_L
  | .n4, .mem => .bit4_MHL
  | .n4, .reg .a => .bit4_A
  | .n5, .reg .b => .bit5_B
  | .n5, .reg .c => .bit5_C
  | .n5, .reg .d => .bit5_D
  | .n5, .reg .e => .bit5_E
  | .n5, .reg .h => .bit5_H
  | .n5, .reg .l => .bit5_L
  | .n5, .mem => .bit5_MHL
  | .n5, .reg .a => .bit5_A
  | .n6, .reg .b => .bit6_B
  | .n6, .reg .c => .bit6_C
  | .n6, .reg .d => .bit6_D
  | .n6, .reg .e => .bit6_E
  | .n6, .reg .h => .bit6_H
  | .n6, .reg .l => .bit6_L
  | .n6, .mem => .bit6_MHL
  | .n6, .reg .a => .bit6_A
  | .n7, .reg .b => .bit7_B
  | .n7, .reg .c => .bit7_C
  | .n7, .reg .d => .bit7_D
  | .n7, .reg .e => .bit7_E
  | .n7, .reg .h => .bit7_H
  | .n7, .reg .l => .bit7_L
  | .n7, .mem => .bit7_MHL
  | .n7, .reg .a => .bit7_A

/-- `RES y,r[z]` (R214) -/
def res (n : BitNo) (o : Operand8) : Instr :=
  match n, o with
  | .n0, .reg .b => .res0_B
  | .n0, .reg .c => .res0_C
  | .n0, .reg .d => .res0_D
  | .n0, .reg .e => .res0_E
  | .n0, .reg .h => .res0_H
  | .n0, .reg .l => .res0_L
  | .n0, .mem => .res0_MHL
  | .n0, .reg .a => .res0_A
  | .n1, .reg .b => .res1_B
  | .n1, .reg .c => .res1_C
  | .n1, .reg .d => .res1_D
  | .n1, .reg .e => .res1_E
  | .n1, .reg .h => .res1_H
  | .n1, .reg .l => .res1_L
  | .n1, .mem => .res1_MHL
  | .n1, .reg .a => .res1_A
  | .n2, .reg .b => .res2_B
  | .n2, .reg .c => .res2_C
  | .n2, .reg .d => .res2_D
  | .n2, .reg .e => .res2_E
  | .n2, .reg .h => .res2_H
  | .n2, .reg .l => .res2_L
  | .n2, .mem => .res2_MHL
  | .n2, .reg .a => .res2_A
  | .n3, .reg .b => .res3_B
  | .n3, .reg .c => .res3_C
  | .n3, .reg .d => .res3_D
  | .n3, .reg .e => .res3_E
  | .n3, .reg .h => .res3_H
  | .n3, .reg .l => .res3_L
  | .n3, .mem => .res3_MHL
  | .n3, .reg .a => .res3_A
  | .n4, .reg .b => .res4_B
  | .n4, .reg .c => .res4_C
  | .n4, .reg .d => .res4_D
  | .n4, .reg .e => .res4_E
  | .n4, .reg .h => .res4_H
  | .n4, .reg .l => .res4_L
  | .n4, .mem => .res4_MHL
  | .n4, .reg .a => .res4_A
  | .n5, .reg .b => .res5_B
  | .n5, .reg .c => .res5_C
  | .n5, .reg .d => .res5_D
  | .n5, .reg .e => .res5_E
  | .n5, .reg .h => .res5_H
  | .n5, .reg .l => .res5_L
  | .n5, .mem => .res5_MHL
  | .n5, .reg .a => .res5_A
  | .n6, .reg .b => .res6_B
  | .n6, .reg .c => .res6_C
  | .n6, .reg .d => .res6_D
  | .n6, .reg .e => .res6_E
  | .n6, .reg .h => .res6_H
  | .n6, .reg .l => .res6_L
  | .n6, .mem => .res6_MHL
  | .n6, .reg .a => .res6_A
  | .n7, .reg .b => .res7_B
  | .n7, .reg .c => .res7_C
  | .n7, .reg .d => .res7_D
  | .n7, .reg .e => .res7_E
  | .n7, .reg .h => .res7_H
  | .n7, .reg .l => .res7_L
  | .n7, .mem => .res7_MHL
  | .n7, .reg .a => .res7_A

/-- `SET y,r[z]` (R215) -/
def set (n : BitNo) (o : Operand8) : Instr :=
  match n, o with
  | .n0, .reg .b => .set0_B
  | .n0, .reg .c => .set0_C
  | .n0, .reg .d => .set0_D
  | .n0, .reg .e => .set0_E
  | .n0, .reg .h => .set0_H
  | .n0, .reg .l => .set0_L
  | .n0, .mem => .set0_MHL
  | .n0, .reg .a => .set0_A
  | .n1, .reg .b => .set1_B
  | .n1, .reg .c => .set1_C
  | .n1, .reg .d => .set1_D
  | .n1, .reg .e => .set1_E
  | .n1, .reg .h => .set1_H
  | .n1, .reg .l => .set1_L
  | .n1, .mem => .set1_MHL
  | .n1, .reg .a => .set1_A
  | .n2, .reg .b => .set2_B
  | .n2, .reg .c => .set2_C
  | .n2, .reg .d => .set2_D
  | .n2, .reg .e => .set2_E
  | .n2, .reg .h => .set2_H
  | .n2, .reg .l => .set2_L
  | .n2, .mem => .set2_MHL
  | .n2, .reg .a => .set2_A
  | .n3, .reg .b => .set3_B
  | .n3, .reg .c => .set3_C
  | .n3, .reg .d => .set3_D
  | .n3, .reg .e => .set3_E
  | .n3, .reg .h => .set3_H
  | .n3, .reg .l => .set3_L
  | .n3, .mem => .set3_MHL
  | .n3, .reg .a => .set3_A
  | .n4, .reg .b => .set4_B
  | .n4, .reg .c => .set4_C
  | .n4, .reg .d => .set4_D
  | .n4, .reg .e => .set4_E
  | .n4, .reg .h => .set4_H
  | .n4, .reg .l => .set4_L
  | .n4, .mem => .set4_MHL
  | .n4, .reg .a => .set4_A
  | .n5, .reg .b => .set5_B
  | .n5, .reg .c => .set5_C
  | .n5, .reg .d => .set5_D
  | .n5, .reg .e => .set5_E
  | .n5, .reg .h => .set5_H
  | .n5, .reg .l => .set5_L
  | .n5, .mem => .set5_MHL
  | .n5, .reg .a => .set5_A
  | .n6, .reg .b => .set6_B
  | .n6, .reg .c => .set6_C
  | .n6, .reg .d => .set6_D
  | .n6, .reg .e => .set6_E
  | .n6, .reg .h => .set6_H
  | .n6, .reg .l => .set6_L
  | .n6, .mem => .set6_MHL
  | .n6, .reg .a => .set6_A
  | .n7, .reg .b => .set7_B
  | .n7, .reg .c => .set7_C
  | .n7, .reg .d => .set7_D
  | .n7, .reg .e => .set7_E
  | .n7, .reg .h => .set7_H
  | .n7, .reg .l => .set7_L
  | .n7, .mem => .set7_MHL
  | .n7, .reg .a => .set7_A

/-- The eleven undefined opcodes with their instructions (R100, R251). -/
def undefinedOpcodes : List (Nat × Instr) :=
  [(0xD3, .undefinedD3),
   (0xDB, .undefinedDB),
   (0xDD, .undefinedDD),
   (0xE3, .undefinedE3),
   (0xE4, .undefinedE4),
   (0xEB, .undefinedEB),
   (0xEC, .undefinedEC),
   (0xED, .undefinedED),
   (0xF4, .undefinedF4),
   (0xFC, .undefinedFC),
   (0xFD, .undefinedFD)]

end Sys2Proof.Form
end

