-- ==== Sys2Proof/Machine/HostMoves.lean ====
section
/-! DEFINITION. The host's moves (R300 to R302, R70, R71, R294, R380): what the outside may do to the machine, always
between two steps. They are no part of `step` (log 15). -/

namespace Sys2Proof.Machine

/-- The RAM size a header code selects (R70). -/
def ramSizeOf (code : Nat) : Option Nat := [0, 0, 8192, 32768, 131072, 65536][code]?

/-- The controller a header type byte selects, with its registers after reset (R71, R31). -/
def controllerOf (type : Nat) : Option Controller :=
  if type = 0x00 then some .none
  else if 0x01 ≤ type ∧ type ≤ 0x03 then some (.mbc1 Mbc1.reset)
  else if 0x0F ≤ type ∧ type ≤ 0x13 then some (.mbc3 Mbc3.reset)
  else none

/-- The title: header bytes 0x0134 to 0x0143 up to the first zero byte (R70). -/
def titleOf (image : List Byte) : List Byte := ((image.drop 0x134).take 16).takeWhile (· != 0#8)

/-- The decoded header of an image, with the image and the saved external RAM (R70, R71, R300). A type without a
controller is refused as unsupported; an image that breaks another launch premise is refused as malformed. -/
def Cart.load (image saved : List Byte) : Except Refusal Cart :=
  let type := (image.getD 0x147 0#8).toNat
  let banks := 2 * 2 ^ (image.getD 0x148 0#8).toNat
  match controllerOf type, ramSizeOf (image.getD 0x149 0#8).toNat with
  | none, _ => .error .unsupportedCartridge
  | some _, none => .error .malformedCartridge
  | some k, some ram =>
    if banks ≤ 128 ∧ image.length = banks * 0x4000 ∧ (k = .none → banks = 2 ∧ ram = 0) then
      .ok { rom := Memory.ofBytes image, title := titleOf image, bankCount := banks, ramSize := ram, ctrl := k
            xram := Memory.ofBytes (saved.take ram) }
    else .error .malformedCartridge

/-- Load a cartridge and reset (R300, R380): the state of R30 and R31 with the image in place, for launch parameters `p`,
`INIT_MEM` contents `ram` (R5) and the external RAM contents `saved`. -/
def launch (p : Params) (ram : Memory) (image saved : List Byte) : Out :=
  match Cart.load image saved with
  | .ok c => .next { State.reset with params := p, ram := ram, cart := c }
  | .error r => .refused r

/-- `SetButtons(new)` (R294). -/
def setButtons (new : Buttons) (s : State) : State :=
  { s with joypad := { s.joypad with held := new } }.requestIf .joypad (s.joypad.held.newPress new)

/-- The frame hand-off (R301): the host has read `fb` and clears `frame_ready`. -/
def takeFrame (s : State) : State := { s with ppu := { s.ppu with frameReady := false } }

/-- The shade at column `x` of line `y` that the host reads (R300, R344). -/
def readFrame (s : State) (x y : Nat) : BitVec 2 := s.ppu.fb.read (fbKey s.params.screen y x)

/-- The external RAM byte the host reads (R300). -/
def readXram (s : State) (i : Nat) : Byte := s.cart.xram.read i

end Sys2Proof.Machine
end

