-- ==== Sys2Proof/Safety.lean ====
section
/-! DEFINITION. What a well-formed machine state is, and what a safe step is, in the terms the claims use. -/

namespace Sys2Proof.Machine

/-- Every sparse store of the machine is in canonical form. -/
def State.memoriesWf (s : State) : Bool :=
  Memory.wf s.ram && Memory.wf s.cart.rom && Memory.wf s.cart.xram && Sparse.wf s.ppu.bgidx && Sparse.wf s.ppu.fb

/-- The bank register of an MBC1-style cartridge selects a bank of the image, never bank 0 (R73, R74). -/
def Cart.bankInImage (c : Cart) : Bool :=
  match c.ctrl with
  | .mbc1 r => decide (1 ≤ r.romBank.toNat) && decide (r.romBank.toNat < c.bankCount)
  | _ => true

/-- The bank count is one a launch accepts: `2 << code`, at most 128 (R70). -/
def Cart.bankCountLegal (c : Cart) : Bool := [2, 4, 8, 16, 32, 64, 128].contains c.bankCount

/-- The invariant of the machine: memories canonical, `F[3:0]` zero (R13), `LY` a scanline number (R22), the selected
sprites at most ten and in X order (R23, R338), `dma.source` a multiple of 256 (R20), and
the MBC1-style bank inside the image (R73). -/
def State.inv (s : State) : Bool :=
  s.memoriesWf && (s.cpu.f &&& 0x0F#8 == 0#8) && decide (s.ppu.ly.toNat ≤ 153) &&
  decide (s.ppu.sprites.length ≤ 10) && decide (List.Pairwise (fun p q => p.x.toNat ≤ q.x.toNat) s.ppu.sprites) &&
  decide (s.dma.source.toNat % 256 = 0) && s.cart.bankCountLegal && s.cart.bankInImage

/-- A cartridge on which no bus access is refused: kind none, or MBC1-style with a bank register of external RAM that
stays inside the buffer whatever its two bits hold (R70 to R78). -/
def Cart.neverRefuses (c : Cart) : Bool :=
  match c.ctrl with
  | .none => true
  | .mbc1 _ => decide (c.ramSize = 0) || decide (0x8000 ≤ c.ramSize)
  | .mbc3 _ => false

/-- The launch parameters' costs are those of the machine's own tables (R104, R262). -/
def Params.plainCosts (p : Params) : Bool := p.cost.isEmpty

end Sys2Proof.Machine
end

