-- ==== Sys2Proof/Certificates/Slice0/Obligations.lean ====
section
/-! DEFINITION. The statements about the model. Each docstring names the rule of `spec/` or, where the claim is the
model's own choice, the log entry. `exec i s` is the execute part of instruction `i`: `PC` already points past it. -/

open Sys2Proof Sys2Proof.Machine

/-! ## Encoding -/

/-- R91, R95 to R99: decoding the bytes of a well-formed instruction gives that instruction and the rest of the string,
with every operand at every value. -/
def Obligations.DecodingAnEncodedInstructionGivesItBack : Prop :=
  ∀ (i : Instr) (rest : List Byte), wellFormed i = true → decode (encode i ++ rest) = .ok (i, rest)

/-- R91, R103: every string that decodes starts with the encoding of a well-formed instruction, the one it decodes to. -/
def Obligations.DecodedBytesAreTheEncoding : Prop :=
  ∀ (bs rest : List Byte) (i : Instr), decode bs = .ok (i, rest) → wellFormed i = true ∧ bs = encode i ++ rest

/-- R91, R104: the first byte fixes the length, one to three bytes, and a string decodes exactly if it has that many. -/
def Obligations.FirstByteFixesTheLength : Prop :=
  (∀ i : Instr, ∃ b0 r, encode i = b0 :: r ∧ (encode i).length = lengthOf b0) ∧
  (∀ b0 : Byte, 1 ≤ lengthOf b0 ∧ lengthOf b0 ≤ 3) ∧
  (∀ bs : List Byte, (∃ i rest, decode bs = .ok (i, rest)) ↔ ∃ b0 r, bs = b0 :: r ∧ lengthOf b0 ≤ bs.length)

/-- Words written out from R90, R91, R95 to R100: one or more of every quarter of both pages. -/
def Obligations.WrittenOutWordsDecode : Prop :=
  decode [0x01#8, 0x34#8, 0x12#8] = .ok (.ldBC_d16 0x1234#16, []) ∧
  decode [0x3C#8] = .ok (.incA, []) ∧
  decode [0b01_110_110#8] = .ok (.halt, []) ∧
  decode [0b01_000_001#8] = .ok (.ldB_C, []) ∧
  decode [0b01_110_111#8] = .ok (.ldMHL_A, []) ∧
  decode [0b10_011_100#8] = .ok (.sbcA_H, []) ∧
  decode [0xEE#8, 0x0F#8] = .ok (.xorA_d8 0x0F#8, []) ∧
  decode [0xE0#8, 0x46#8] = .ok (.ldhMa8_A 0x46#8, []) ∧
  decode [0x20#8, 0xFC#8] = .ok (.jrNZ_e8 0xFC#8, []) ∧
  decode [0b11_011_100#8, 0x00#8, 0x30#8] = .ok (.callC_a16 0x3000#16, []) ∧
  decode [0b11_101_111#8] = .ok (.rst28, []) ∧
  decode [0xDD#8] = .ok (.undefinedDD, []) ∧
  decode [0xCB#8, 0b00_110_111#8] = .ok (.swapA, []) ∧
  decode [0xCB#8, 0b01_100_101#8] = .ok (.bit4_L, []) ∧
  decode [0xCB#8, 0b10_111_111#8] = .ok (.res7_A, []) ∧
  decode [0xCB#8, 0b11_011_110#8] = .ok (.set3_MHL, [])

/-! ## The step -/

/-- R261: the whole step. The `serviced` flag is used up and costs 5 cycles; a halted machine executes the synthetic
`HALT` without a fetch; the cycles are the reported cost plus the penalty; the timer (in ticks), the DMA sequencer (in
cycles) and the PPU (in ticks) advance in that order; the interrupt half ends the step; `cycles` is the value returned. -/
def Obligations.StepFollowsTheStepAlgorithm : Prop :=
  ∀ s : State,
    step s =
      (let pen := if s.cpu.serviced then 5 else 0
       let s1 : State := { s with cpu := { s.cpu with serviced := false } }
       let ran : Out :=
         match s.cpu.mode with
         | .halted => exec .halt s1
         | .running =>
           match fetchInstr s1 with
           | .ok (i, s2) => exec i s2
           | .error r => .refused r
       match ran with
       | .next t =>
         let c := t.cost + pen
         match dmaTick (State.timerTick { t with cycles := c } (t.params.tickScale * c)) c with
         | .ok u => interruptHalf (u.ppuTick (t.params.tickScale * c))
         | .error r => .refused r
       | .fault f => .fault f
       | .refused r => .refused r)

/-- R15, R87, R91, R261: when the bytes at `PC` are those of the well-formed instruction `i`, the step executes `i` with
`PC` past it and the `serviced` flag used up, then ends as R261 (d) to (f) say (`finishStep`). -/
def Obligations.StepRunsTheDecodedInstruction : Prop :=
  ∀ (i : Instr) (s : State), wellFormed i = true → s.cpu.mode = .running →
    (∀ (k : Nat) (hk : k < (encode i).length), memRead s (s.cpu.pc + BitVec.ofNat 16 k) = .ok (encode i)[k]) →
    step s =
      thenDo
        (exec i { s with cpu := { s.cpu with pc := s.cpu.pc + BitVec.ofNat 16 (encode i).length, serviced := false } })
        (finishStep (if s.cpu.serviced then 5 else 0))

/-- R246, R272: `HALT` enters HALTED and costs 1. A halted step of a machine whose interrupts are masked changes no register
and not `PC`, takes one cycle (plus the penalty) by the default cost table, and leaves the machine halted exactly if no
enabled request is pending at its end. `STOP` is the model's choice that R247 allows (log 7): a no-op of default cost 1. -/
def Obligations.HaltWaitsAndStopIsANoOp : Prop :=
  (∀ s : State, exec .halt s = .next (State.charge { s with cpu := { s.cpu with mode := .halted } } 0x76 1)) ∧
  (∀ s t : State, s.cpu.mode = .halted → s.cpu.ime = false → s.params.cost = [] → step s = .next t →
    t.cpu = { s.cpu with serviced := false, mode := t.cpu.mode } ∧
    t.cycles = 1 + (if s.cpu.serviced then 5 else 0) ∧
    (t.cpu.mode = .halted ↔ t.irq.ie &&& t.irq.ifr &&& 0x1F#8 = 0#8)) ∧
  (∀ s : State, exec .stop s = .next (s.charge 0x10 1))

/-- R262, R396: with the default cost tables a step returns at least 1 and at most 11 cycles, and at most 6 when no
interrupt was dispatched before it. That `STOP` costs 1 is the model's choice (log 7). -/
def Obligations.StepTakesOneToElevenCycles : Prop :=
  ∀ s t : State, s.params.cost = [] → step s = .next t →
    1 ≤ t.cycles ∧ t.cycles ≤ (if s.cpu.serviced then 11 else 6)

/-! ## Reset -/

/-- R30: the reset values the source states. -/
def Obligations.ResetHoldsTheStatedValues : Prop :=
  State.reset.cpu.pc = 0x0100#16 ∧ State.reset.cpu.a = 0x01#8 ∧ State.reset.cpu.f = 0x80#8 ∧
  State.reset.cpu.pair .bc = 0x0013#16 ∧ State.reset.cpu.pair .de = 0x00D8#16 ∧ State.reset.cpu.pair .hl = 0x014D#16 ∧
  State.reset.cpu.flags = { z := true, n := false, h := false, c := false } ∧
  State.reset.cpu.b = 0x00#8 ∧ State.reset.cpu.c = 0x13#8 ∧ State.reset.cpu.d = 0x00#8 ∧
  State.reset.cpu.e = 0xD8#8 ∧ State.reset.cpu.h = 0x01#8 ∧ State.reset.cpu.l = 0x4D#8 ∧
  State.reset.cpu.sp = 0xFFFE#16 ∧ State.reset.irq.ifr = 0xE1#8 ∧ State.reset.irq.ie = 0x00#8 ∧
  State.reset.timer.divider = 0xAB#14 ∧ State.reset.ppu.lcdc = 0x91#8 ∧ State.reset.ppu.stat = 0x85#8 ∧
  State.reset.ppu.sprites = [] ∧ State.reset.ppu.winLine = 0 ∧ State.reset.ppu.winInFrame = false ∧
  State.reset.joypad.held = ⟨false, false, false, false, false, false, false, false⟩

/-- The invariant holds at reset. -/
def Obligations.ResetMeetsTheInvariant : Prop := State.reset.inv = true

/-! ## Invariants -/

/-- Every step keeps the invariant of the machine: memories in canonical form, `F[3:0] = 0` (R13), `LY` at most 153
(R22), at most ten sprites in X order (R23, R338), `dma.source` a multiple of 256 (R20), and an MBC1-style bank register
that selects a bank of the image other than bank 0 (R73). -/
def Obligations.EveryStepKeepsTheInvariant : Prop :=
  ∀ s t : State, s.inv = true → step s = .next t → t.inv = true

/-- R27, R42: no step changes the cartridge image, its decoded header, the controller's kind or a launch parameter. -/
def Obligations.NoStepChangesImageHeaderOrParameters : Prop :=
  ∀ s t : State, step s = .next t →
    t.cart.rom = s.cart.rom ∧ t.cart.title = s.cart.title ∧ t.cart.bankCount = s.cart.bankCount ∧
    t.cart.ramSize = s.cart.ramSize ∧ t.params = s.params ∧
    (s.cart.ctrl = .none → t.cart.ctrl = .none) ∧
    ((∃ r, s.cart.ctrl = .mbc1 r) → ∃ r, t.cart.ctrl = .mbc1 r) ∧
    ((∃ r, s.cart.ctrl = .mbc3 r) → ∃ r, t.cart.ctrl = .mbc3 r)

/-- R70 to R78, R270: on a cartridge of kind none, or MBC1-style with no external RAM or all four banks of it, every step
has a next state, whatever the program does, and the cartridge stays of that kind. That a step which executes `STOP` has a
next state is the model's choice (log 7): R247 and R270 refuse it, and R247 lets a total model run it as a no-op. -/
def Obligations.NoStepStopsOnAnOrdinaryCartridge : Prop :=
  ∀ s : State, s.cart.neverRefuses = true → ∃ t, step s = .next t ∧ t.cart.neverRefuses = true

/-- R75, R77, R270: a step raises no fault, and is refused for one of two reasons only: an external RAM offset outside the
buffer, or an MBC3-style bank outside the image. R270 lists `STOP` as a third (R247); that it is none here is the model's
choice (log 7). -/
def Obligations.StepsStopOnlyOutsideTheCartridge : Prop :=
  ∀ s : State, (∃ t, step s = .next t) ∨
    (step s = .refused .xramOutOfRange ∧ s.cart.ramSize ≠ 0) ∨
    (step s = .refused .romOutOfRange ∧ ∃ r, s.cart.ctrl = .mbc3 r)

/-- R20, R23, R287, R325, R396: the counters at the end of a step. With the default cost tables and at most the default tick
scale the line counter stays at most 456. A transfer under way has counted fewer than 160 cycles, and (default cost tables)
a step that dispatched no interrupt never leaves the sequencer waiting. A dispatch whose push hits 0xFF46 does leave it
waiting (R273): R287's remark that waiting cannot be observed passes over that case. -/
def Obligations.DeviceCountersStayInRange : Prop :=
  ∀ s t : State, step s = .next t →
    (s.params.cost = [] → s.params.tickScale ≤ 4 → s.ppu.ticks ≤ 456 → t.ppu.ticks ≤ 456) ∧
    (t.dma.mode = .transferring → t.dma.elapsed < 160) ∧
    (s.params.cost = [] → t.cpu.serviced = false → t.dma.mode ≠ .waiting)

/-! ## Registers and flags -/

/-- R11: the pairs are views of the byte registers, the first-named register in the high byte. -/
def Obligations.PairsAreTheirTwoBytes : Prop :=
  (∀ h l : Byte, (word h l).toNat = 256 * h.toNat + l.toNat) ∧
  ∀ p : Cpu,
    p.pair .bc = word p.b p.c ∧ p.pair .de = word p.d p.e ∧ p.pair .hl = word p.h p.l ∧
    (p.f &&& 0x0F#8 = 0#8 → p.stackPair .af = word p.a p.f) ∧
    (∀ h l : Byte,
      p.setPair .bc (word h l) = { p with b := h, c := l } ∧ p.setPair .de (word h l) = { p with d := h, e := l } ∧
      p.setPair .hl (word h l) = { p with h := h, l := l } ∧
      p.setStackPair .af (word h l) = { p with a := h, f := l &&& 0xF0#8 }) ∧
    (∀ v : Byte, (p.setReg .b v).pair .bc = word v p.c ∧ (p.setReg .c v).pair .bc = word p.b v ∧
      (p.setReg .d v).pair .de = word v p.e ∧ (p.setReg .e v).pair .de = word p.d v ∧
      (p.setReg .h v).pair .hl = word v p.l ∧ (p.setReg .l v).pair .hl = word p.h v)

/-- R13: `F[3:0]` is 0 at reset, every instruction and every step keep it 0, and a write of `F` from data stores
`v & 0xF0`. -/
def Obligations.LowFlagNibbleIsAlwaysZero : Prop :=
  State.reset.cpu.f &&& 0x0F#8 = 0#8 ∧
  (∀ (i : Instr) (s t : State), s.cpu.f &&& 0x0F#8 = 0#8 → exec i s = .next t → t.cpu.f &&& 0x0F#8 = 0#8) ∧
  (∀ s t : State, s.cpu.f &&& 0x0F#8 = 0#8 → step s = .next t → t.cpu.f &&& 0x0F#8 = 0#8) ∧
  (∀ (p : Cpu) (v : Word), (p.setStackPair .af v).f = loByte v &&& 0xF0#8)

/-- R12, R7: the four flags are `F[7]`, `F[6]`, `F[5]`, `F[4]`; writing them reads back; the conditions test them. -/
def Obligations.FlagsAreTheHighBitsOfF : Prop :=
  (∀ (p : Cpu) (g : Flags), (p.setFlags g).flags = g ∧ (p.setFlags g).f.toNat =
    128 * g.z.toNat + 64 * g.n.toNat + 32 * g.h.toNat + 16 * g.c.toNat) ∧
  (∀ p : Cpu, p.flags = { z := p.f.getLsbD 7, n := p.f.getLsbD 6, h := p.f.getLsbD 5, c := p.f.getLsbD 4 } ∧
    (p.holds .nz = true ↔ p.f.getLsbD 7 = false) ∧ (p.holds .z = true ↔ p.f.getLsbD 7 = true) ∧
    (p.holds .nc = true ↔ p.f.getLsbD 4 = false) ∧ (p.holds .c = true ↔ p.f.getLsbD 4 = true))

/-! ## The bus and the memories -/

/-- R41, R43: what a bus read returns, region by region. It is a function of the state and changes none. -/
def Obligations.BusReadsByRegion : Prop :=
  ∀ (s : State) (a : Word), let n := a.toNat
    (n < 0x8000 → memRead s a = s.cart.romRead n) ∧
    (0x8000 ≤ n → n < 0xA000 → memRead s a = .ok (Memory.read s.ram n)) ∧
    (0xA000 ≤ n → n < 0xC000 → memRead s a = s.cart.xramRead n) ∧
    (0xC000 ≤ n → n < 0xE000 → memRead s a = .ok (Memory.read s.ram n)) ∧
    (0xE000 ≤ n → n < 0xFE00 → memRead s a = .ok (Memory.read s.ram (0xC000 + Params.echoOffset s.params n))) ∧
    (0xFE00 ≤ n → n < 0xFF00 → memRead s a = .ok (Memory.read s.ram n)) ∧
    (0xFF00 ≤ n → n < 0xFF80 →
      memRead s a = .ok (match ioRegAt a with | some r => s.readIo r | none => 0xFF#8)) ∧
    (0xFF80 ≤ n → n < 0xFFFF → memRead s a = .ok (Memory.read s.ram n)) ∧
    (n = 0xFFFF → memRead s a = .ok s.irq.ie)

/-- R42, R43: what a bus write does, region by region, and that no write changes the ROM image. -/
def Obligations.BusWritesByRegion : Prop :=
  ∀ (s : State) (a : Word) (v : Byte), let n := a.toNat
    (n < 0x8000 → memWrite s a v = .ok { s with cart := s.cart.romWrite n v }) ∧
    (0x8000 ≤ n → n < 0xA000 → memWrite s a v = .ok { s with ram := Memory.write s.ram n v }) ∧
    (0xA000 ≤ n → n < 0xC000 → ∀ c, s.cart.xramWrite n v = .ok c → memWrite s a v = .ok { s with cart := c }) ∧
    (0xC000 ≤ n → n < 0xE000 → memWrite s a v = .ok { s with ram := Memory.write s.ram n v }) ∧
    (0xE000 ≤ n → n < 0xFE00 →
      memWrite s a v = .ok { s with ram := Memory.write s.ram (0xC000 + Params.echoOffset s.params n) v }) ∧
    (0xFE00 ≤ n → n < 0xFF00 → memWrite s a v = .ok { s with ram := Memory.write s.ram n v }) ∧
    (0xFF00 ≤ n → n < 0xFF80 → ∀ r, ioRegAt a = some r → memWrite s a v = .ok (s.writeIo r v)) ∧
    (0xFF00 ≤ n → n < 0xFF80 → ioRegAt a = none → memWrite s a v = .ok s) ∧
    (0xFF80 ≤ n → n < 0xFFFF → memWrite s a v = .ok { s with ram := Memory.write s.ram n v }) ∧
    (n = 0xFFFF → memWrite s a v = .ok { s with irq := { s.irq with ie := v } }) ∧
    (∀ t, memWrite s a v = .ok t → t.cart.rom = s.cart.rom)

/-- R40, R81, R270: which accesses the bus answers. A read or write that is not answered is refused by name, and that
depends on the cartridge alone. -/
def Obligations.BusAnswersUnlessOutsideTheCartridge : Prop :=
  ∀ (s : State) (a : Word) (v : Byte),
    ((∃ b, memRead s a = .ok b) ↔ s.readable a = true) ∧
    ((∃ t, memWrite s a v = .ok t) ↔ s.writable a = true) ∧
    (∀ r, memRead s a = .error r → r = if a.toNat < 0x8000 then Refusal.romOutOfRange else .xramOutOfRange) ∧
    (∀ r, memWrite s a v = .error r → r = Refusal.xramOutOfRange)

/-- R44, R46, R85: video RAM, work RAM with its echo, OAM, the unused gap and high RAM are plain byte storage in every mode
of the PPU and the DMA sequencer: a read returns the last byte written to that location through whichever alias, and a
write changes nothing else of the machine. -/
def Obligations.PlainStorageKeepsTheLastByteWritten : Prop :=
  ∀ (s : State) (a : Word) (v : Byte), plainStorage a = true →
    ∃ t, memWrite s a v = .ok t ∧ memRead t a = .ok v ∧ t = { s with ram := t.ram } ∧
      ∀ b : Word, memRead t b = if plainStorage b = true ∧ ramHome s.params b = ramHome s.params a then .ok v else memRead s b

/-- R45: an echo access goes to the work-RAM location `ECHO_MAP` names, whatever the map, and with the default map to the
address 0x2000 below. -/
def Obligations.EchoRamMirrorsWorkRam : Prop :=
  ∀ (s : State) (a : Word) (v : Byte), 0xE000 ≤ a.toNat → a.toNat < 0xFE00 →
    Params.echoOffset s.params a.toNat < 8192 ∧
    memRead s a = memRead s (0xC000#16 + BitVec.ofNat 16 (Params.echoOffset s.params a.toNat)) ∧
    memWrite s a v = memWrite s (0xC000#16 + BitVec.ofNat 16 (Params.echoOffset s.params a.toNat)) v ∧
    (s.params.echo = [] → memRead s a = memRead s (a - 0x2000#16) ∧ memWrite s a v = memWrite s (a - 0x2000#16) v)

/-- R50, R51: an I/O address that the register map does not list reads 0xFF and drops writes. -/
def Obligations.UnmappedIoReadsOpenBus : Prop :=
  ∀ (s : State) (a : Word) (v : Byte), 0xFF00 ≤ a.toNat → a.toNat < 0xFF80 →
    a.toNat ∉ [0xFF00, 0xFF04, 0xFF05, 0xFF06, 0xFF07, 0xFF0F, 0xFF40, 0xFF41, 0xFF42, 0xFF43, 0xFF44, 0xFF45, 0xFF46,
      0xFF47, 0xFF48, 0xFF49, 0xFF4A, 0xFF4B] →
    memRead s a = .ok 0xFF#8 ∧ memWrite s a v = .ok s

/-! ## The cartridge -/

/-- R72, R73, R77, R25: reads of the ROM window. Kind none is flat and drops writes. The other two show bank 0 below 0x4000
and the selected bank above it, a register value of 0 behaving as bank 1; an MBC3-style offset outside the image is refused
by name. R77's external RAM: disabled it is open bus, enabled it is the byte of the selected bank, refused outside the
buffer. -/
def Obligations.CartridgeShowsTheSelectedBank : Prop :=
  ∀ (s : State) (a : Word) (v : Byte), let n := a.toNat
    (s.cart.ctrl = .none → n < 0x8000 → memRead s a = .ok (Memory.read s.cart.rom n) ∧ memWrite s a v = .ok s) ∧
    (∀ r, s.cart.ctrl = .mbc1 r →
      (n < 0x4000 → memRead s a = .ok (Memory.read s.cart.rom n)) ∧
      (0x4000 ≤ n → n < 0x8000 → memRead s a =
        .ok (Memory.read s.cart.rom ((if r.romBank.toNat = 0 then 1 else r.romBank.toNat) * 0x4000 + (n - 0x4000))))) ∧
    (∀ r, s.cart.ctrl = .mbc3 r →
      (n < 0x4000 → memRead s a = .ok (Memory.read s.cart.rom n)) ∧
      (0x4000 ≤ n → n < 0x8000 →
        let off := (if r.romBank.toNat = 0 then 1 else r.romBank.toNat) * 0x4000 + (n - 0x4000)
        memRead s a =
          if off < s.cart.bankCount * 0x4000 then .ok (Memory.read s.cart.rom off) else .error .romOutOfRange) ∧
      (0xA000 ≤ n → n < 0xC000 → s.cart.ramSize ≠ 0 →
        let off := r.ramBank.toNat * 0x2000 + (n - 0xA000)
        (r.ramEnable = false → memRead s a = .ok 0xFF#8 ∧ memWrite s a v = .ok s) ∧
        (r.ramEnable = true → off < s.cart.ramSize → memRead s a = .ok (Memory.read s.cart.xram off) ∧
          memWrite s a v = .ok { s with cart := { s.cart with xram := Memory.write s.cart.xram off v } }) ∧
        (r.ramEnable = true → s.cart.ramSize ≤ off →
          memRead s a = .error .xramOutOfRange ∧ memWrite s a v = .error .xramOutOfRange)))

/-- R74, R76, R73: the bank registers. MBC1-style: the ROM bank is the low five bits modulo the number of banks, 0 becoming
1, so it is always a bank of the image; the RAM bank keeps two bits and the mode one. MBC3-style: the ROM bank is seven
bits, 0 becoming 1, not masked; the RAM bank is the whole byte; a write above 0x6000 is dropped. Only a low nibble of 0x0A
enables RAM. Nothing else changes. -/
def Obligations.BankRegisterWrites : Prop :=
  ∀ (s : State) (a : Word) (v : Byte), let n := a.toNat
    n < 0x8000 →
    (∀ r, s.cart.ctrl = .mbc1 r → s.cart.bankCountLegal = true →
      ∃ q, memWrite s a v = .ok { s with cart := { s.cart with ctrl := .mbc1 q } } ∧
        (n < 0x2000 → q = { r with ramEnable := decide (v.toNat % 16 = 0x0A) }) ∧
        (0x2000 ≤ n → n < 0x4000 →
          q = { r with romBank := q.romBank } ∧ q.romBank.toNat < s.cart.bankCount ∧
          q.romBank.toNat = let b := v.toNat % 32 % (min s.cart.bankCount 32); if b = 0 then 1 else b) ∧
        (0x4000 ≤ n → n < 0x6000 → q = { r with ramBank := BitVec.ofNat 2 v.toNat }) ∧
        (0x6000 ≤ n → q = { r with bankMode := BitVec.ofNat 1 v.toNat })) ∧
    (∀ r, s.cart.ctrl = .mbc3 r →
      ∃ q, memWrite s a v = .ok { s with cart := { s.cart with ctrl := .mbc3 q } } ∧
        (n < 0x2000 → q = { r with ramEnable := decide (v.toNat % 16 = 0x0A) }) ∧
        (0x2000 ≤ n → n < 0x4000 →
          q = { r with romBank := q.romBank } ∧ q.romBank.toNat = if v.toNat % 128 = 0 then 1 else v.toNat % 128) ∧
        (0x4000 ≤ n → n < 0x6000 → q = { r with ramBank := v }) ∧
        (0x6000 ≤ n → q = r))

/-- R78, R75: external RAM. Without it every access is open bus; MBC1-style RAM that is disabled is open bus too; enabled,
it is the byte of the selected 8 KiB bank, or the access is refused when that lies outside the buffer. -/
def Obligations.ExternalRamGateAndMbc1Banks : Prop :=
  ∀ (s : State) (a : Word) (v : Byte), 0xA000 ≤ a.toNat → a.toNat < 0xC000 →
    (s.cart.ramSize = 0 → memRead s a = .ok 0xFF#8 ∧ memWrite s a v = .ok s) ∧
    (∀ r, s.cart.ctrl = .mbc1 r → s.cart.ramSize ≠ 0 → r.ramEnable = false →
      memRead s a = .ok 0xFF#8 ∧ memWrite s a v = .ok s) ∧
    (∀ r, s.cart.ctrl = .mbc1 r → s.cart.ramSize ≠ 0 → r.ramEnable = true →
      let off := r.ramBank.toNat * 0x2000 + (a.toNat - 0xA000)
      (off < s.cart.ramSize → memRead s a = .ok (Memory.read s.cart.xram off) ∧
        memWrite s a v = .ok { s with cart := { s.cart with xram := Memory.write s.cart.xram off v } }) ∧
      (s.cart.ramSize ≤ off → memRead s a = .error .xramOutOfRange ∧ memWrite s a v = .error .xramOutOfRange))

/-- R70, R71, R300, R380: which images a launch accepts, and the whole state an accepted launch leaves: that of reset, with
the parameters, the contents of RAM and the cartridge: the header's title and sizes, the controller of its type with its
reset registers, the image, and the saved external RAM as far as the buffer reaches. It meets the invariant. That the type
is tested before the other premises, and the reason `malformedCartridge`, are the model's choice (log 17). -/
def Obligations.LaunchDecodesTheHeader : Prop :=
  ∀ (p : Params) (ram : Memory) (image saved : List Byte), Memory.wf ram = true →
    let byte (k : Nat) : Byte := image.getD k 0#8
    let code (k : Nat) : Nat := (byte k).toNat
    let kind : Option Controller :=
      if code 0x147 = 0 then some .none
      else if code 0x147 = 1 ∨ code 0x147 = 2 ∨ code 0x147 = 3 then some (.mbc1 Mbc1.reset)
      else if code 0x147 = 0x0F ∨ code 0x147 = 0x10 ∨ code 0x147 = 0x11 ∨ code 0x147 = 0x12 ∨ code 0x147 = 0x13
        then some (.mbc3 Mbc3.reset)
      else none
    let ramSize := [0, 0, 8192, 32768, 131072, 65536].getD (code 0x149) 0
    (kind = none → launch p ram image saved = .refused .unsupportedCartridge) ∧
    (∀ k, kind = some k →
      (code 0x149 ≤ 5 ∧ 2 * 2 ^ code 0x148 ≤ 128 ∧ image.length = 32768 * 2 ^ code 0x148 ∧
        (k = .none → image.length = 32768 ∧ ramSize = 0) →
        ∃ t, launch p ram image saved = .next t ∧ t.inv = true ∧
          t = { State.reset with params := p, ram := ram, cart := t.cart } ∧
          t.cart.bankCount = 2 * 2 ^ code 0x148 ∧ t.cart.ramSize = ramSize ∧ t.cart.ctrl = k ∧
          t.cart.title.length ≤ 16 ∧ (t.cart.title.length < 16 → byte (0x134 + t.cart.title.length) = 0#8) ∧
          (∀ i, i < t.cart.title.length → t.cart.title.getD i 0#8 = byte (0x134 + i) ∧ byte (0x134 + i) ≠ 0#8) ∧
          (∀ n, n < image.length → Memory.read t.cart.rom n = byte n) ∧
          (∀ n, n < ramSize → n < saved.length → Memory.read t.cart.xram n = saved.getD n 0#8)) ∧
      (¬ (code 0x149 ≤ 5 ∧ 2 * 2 ^ code 0x148 ≤ 128 ∧ image.length = 32768 * 2 ^ code 0x148 ∧
        (k = .none → image.length = 32768 ∧ ramSize = 0)) → launch p ram image saved = .refused .malformedCartridge))

/-! ## Timer, DMA, joypad and interrupt registers -/

/-- R271, R283, R284, R286: the registers of the interrupt controller, the timer and the DMA sequencer, read and written. -/
def Obligations.DeviceRegistersReadAndWrite : Prop :=
  ∀ (s : State) (v : Byte),
    memRead s 0xFF0F#16 = .ok s.irq.ifr ∧
    memWrite s 0xFF0F#16 v = .ok { s with irq := { s.irq with ifr := v } } ∧
    memRead s 0xFFFF#16 = .ok s.irq.ie ∧
    memWrite s 0xFFFF#16 v = .ok { s with irq := { s.irq with ie := v } } ∧
    memRead s 0xFF04#16 = .ok (BitVec.ofNat 8 (s.timer.divider.toNat / 2 ^ s.params.divShift % 256)) ∧
    memWrite s 0xFF04#16 v = .ok { s with timer := { s.timer with divider := 0 } } ∧
    memRead s 0xFF05#16 = .ok s.timer.tima ∧
    memWrite s 0xFF05#16 v = .ok { s with timer := { s.timer with tima := v } } ∧
    memRead s 0xFF06#16 = .ok s.timer.tma ∧
    memWrite s 0xFF06#16 v = .ok { s with timer := { s.timer with tma := v } } ∧
    memRead s 0xFF07#16 = .ok s.timer.tac ∧
    memWrite s 0xFF07#16 v = .ok { s with timer := { s.timer with tac := v } } ∧
    (∃ hi : Byte, memRead s 0xFF46#16 = .ok hi ∧ hi.toNat = s.dma.source.toNat / 256) ∧
    memWrite s 0xFF46#16 v =
      .ok { s with dma := { mode := .waiting, elapsed := 0, source := BitVec.ofNat 16 (v.toNat * 256) } }

/-- R280, R281, R282: one timer tick. The divider grows modulo 2^14; if the timer is enabled and the divider has reached the
threshold, it is reduced once and `TIMA` counts once, reloading from `TMA` and requesting the interrupt from 0xFF. -/
def Obligations.TimerTickCountsOnceAtTheThreshold : Prop :=
  ∀ (s : State) (n : Nat),
    let d := (s.timer.divider.toNat + n) % 2 ^ 14
    let thresh := if s.timer.tac.toNat % 4 = 0 then 1024 else if s.timer.tac.toNat % 4 = 1 then 16
      else if s.timer.tac.toNat % 4 = 2 then 64 else 256
    (s.timer.tac.getLsbD 2 = false ∨ d < thresh →
      s.timerTick n = { s with timer := { s.timer with divider := BitVec.ofNat 14 d } }) ∧
    (s.timer.tac.getLsbD 2 = true → thresh ≤ d → s.timer.tima ≠ 0xFF#8 →
      s.timerTick n =
        { s with timer := { s.timer with divider := BitVec.ofNat 14 (d - thresh), tima := s.timer.tima + 1#8 } }) ∧
    (s.timer.tac.getLsbD 2 = true → thresh ≤ d → s.timer.tima = 0xFF#8 →
      s.timerTick n =
        { s with timer := { s.timer with divider := BitVec.ofNat 14 (d - thresh), tima := s.timer.tma },
                 irq := { s.irq with ifr := s.irq.ifr ||| 0x04#8 } })

/-- R287, R288: the DMA sequencer. Off, it does nothing; under 160 cycles since the trigger it only counts; from 160 on it
copies the 160 source bytes, each read through the bus, to `oam`, changes nothing else and turns off. (The source base is
a multiple of 256, R20.) -/
def Obligations.DmaCopiesThePageAfter160Cycles : Prop :=
  ∀ (s : State) (c : Nat), 1 ≤ c →
    (s.dma.mode = .off → dmaTick s c = .ok s) ∧
    (s.dma.mode ≠ .off → s.dma.elapsed + c < 160 →
      dmaTick s c = .ok { s with dma := { s.dma with mode := .transferring, elapsed := s.dma.elapsed + c } }) ∧
    (s.dma.mode ≠ .off → 160 ≤ s.dma.elapsed + c → s.dma.source.toNat % 256 = 0 →
      (∀ i < 160, s.readable (s.dma.source + BitVec.ofNat 16 i) = true) →
      ∃ t, dmaTick s c = .ok t ∧
        t = { s with ram := t.ram, dma := { s.dma with mode := .off, elapsed := s.dma.elapsed + c } } ∧
        (∀ i < 160, memRead s (s.dma.source + BitVec.ofNat 16 i) = .ok (Memory.read t.ram (0xFE00 + i))) ∧
        (∀ k, k < 0xFE00 ∨ 0xFEA0 ≤ k → Memory.read t.ram k = Memory.read s.ram k))

/-- R291 to R294: the joypad. With no group selected the register reads 0xFF; else bits 7:6 are 1, bits 5:4 the selectors
and each low bit 0 exactly if the button of a selected group is pressed. A write stores the two selector bits only. The
host's button update stores the new states and requests the interrupt exactly if some button goes from released to
pressed. -/
def Obligations.JoypadShowsTheSelectedGroups : Prop :=
  ∀ (s : State) (v : Byte) (new : Buttons),
    let j := s.joypad; let old := s.joypad.held
    let pressed := (old.right = false ∧ new.right = true) ∨ (old.left = false ∧ new.left = true) ∨
      (old.up = false ∧ new.up = true) ∨ (old.down = false ∧ new.down = true) ∨ (old.a = false ∧ new.a = true) ∨
      (old.b = false ∧ new.b = true) ∨ (old.select = false ∧ new.select = true) ∨ (old.start = false ∧ new.start = true)
    (∃ p : Byte, memRead s 0xFF00#16 = .ok p ∧
      (j.selDpad = true → j.selBtn = true → p = 0xFF#8) ∧
      (j.selDpad = false ∨ j.selBtn = false →
        p.getLsbD 7 = true ∧ p.getLsbD 6 = true ∧ p.getLsbD 5 = j.selBtn ∧ p.getLsbD 4 = j.selDpad ∧
        (p.getLsbD 0 = false ↔ (j.selDpad = false ∧ old.right = true) ∨ (j.selBtn = false ∧ old.a = true)) ∧
        (p.getLsbD 1 = false ↔ (j.selDpad = false ∧ old.left = true) ∨ (j.selBtn = false ∧ old.b = true)) ∧
        (p.getLsbD 2 = false ↔ (j.selDpad = false ∧ old.up = true) ∨ (j.selBtn = false ∧ old.select = true)) ∧
        (p.getLsbD 3 = false ↔ (j.selDpad = false ∧ old.down = true) ∨ (j.selBtn = false ∧ old.start = true)))) ∧
    memWrite s 0xFF00#16 v = .ok { s with joypad := { j with selDpad := v.getLsbD 4, selBtn := v.getLsbD 5 } } ∧
    (pressed → setButtons new s =
      { s with joypad := { j with held := new }, irq := { s.irq with ifr := s.irq.ifr ||| 0x10#8 } }) ∧
    (¬ pressed → setButtons new s = { s with joypad := { j with held := new } })

/-! ## Interrupts -/

/-- R275: the source served is the lowest-numbered pending one, and there is one exactly if some enabled request is pending. -/
def Obligations.LowestPendingSourceIsServed : Prop :=
  ∀ q : Irq,
    (firstSource q.pend = none ↔ q.ie &&& q.ifr &&& 0x1F#8 = 0#8) ∧
    (∀ i : Source, firstSource q.pend = some i ↔
      (q.ie.getLsbD i.bit = true ∧ q.ifr.getLsbD i.bit = true ∧
        ∀ k < i.bit, ¬ (q.ie.getLsbD k = true ∧ q.ifr.getLsbD k = true)))

/-- R272: without `IME`, or with nothing pending, the interrupt half only wakes a halted machine, and exactly if an enabled
request is pending. -/
def Obligations.WakeWithoutService : Prop :=
  ∀ s : State, s.cpu.ime = false ∨ s.irq.ie &&& s.irq.ifr &&& 0x1F#8 = 0#8 →
    interruptHalf s =
      .next { s with cpu := { s.cpu with mode :=
        if s.cpu.mode = .halted ∧ s.irq.ie &&& s.irq.ifr &&& 0x1F#8 ≠ 0#8 then .running else s.cpu.mode } }

/-- R273, R274: dispatch. With `IME` set and source `i` the least pending one: `IME` off, `PC` pushed through the bus (high
byte at `SP-1`, low byte at `SP-2`), bit `i` cleared in the `IF` current after the push, `PC` at `0x40 + 8 i`, `serviced`
set; a halted machine runs. -/
def Obligations.InterruptDispatchEntersTheVector : Prop :=
  ∀ (s : State) (i : Source), s.cpu.ime = true → firstSource s.irq.pend = some i →
    s.canPush = true →
    ∃ t, Pushed s s.cpu.pc t ∧
      interruptHalf s = .next { t with
        irq := { t.irq with ifr := t.irq.ifr &&& ~~~(1#8 <<< i.bit) },
        cpu := { s.cpu with ime := false, mode := .running, sp := s.cpu.sp - 2#16, serviced := true,
                            pc := BitVec.ofNat 16 (0x40 + 8 * i.bit) } }

/-- R234, R273, R276: an interrupt taken with the stack in plain storage and returned from with `RETI` resumes the
interrupted code: `PC`, `SP` and every register as before, `IME` on. -/
def Obligations.RetiResumesTheInterruptedCode : Prop :=
  ∀ s : State, s.cpu.ime = true → s.irq.ie &&& s.irq.ifr &&& 0x1F#8 ≠ 0#8 →
    s.plainStack = true →
    ∃ t u, interruptHalf s = .next t ∧ exec .reti t = .next u ∧
      u.cpu = { s.cpu with mode := .running, serviced := true }

/-! ## The pixel-processing unit -/

/-- R332: the STAT line. `STAT[2]` shows LY=LYC; the line is the OR of the four selected conditions; its rising edge, and
nothing else, requests the interrupt; a second evaluation changes nothing. -/
def Obligations.StatLineRequestsOnItsRisingEdge : Prop :=
  ∀ s : State, let p := s.ppu; let t := s.statEval
    let line := (p.stat.getLsbD 3 = true ∧ p.stat.toNat % 4 = 0) ∨ (p.stat.getLsbD 4 = true ∧ p.stat.toNat % 4 = 1) ∨
      (p.stat.getLsbD 5 = true ∧ p.stat.toNat % 4 = 2) ∨ (p.stat.getLsbD 6 = true ∧ p.ly = p.lyc)
    (t.ppu.statLine = true ↔ line) ∧
    t.ppu = { p with stat := (p.stat &&& 0xFB#8) ||| (if p.ly = p.lyc then 0x04#8 else 0#8), statLine := t.ppu.statLine } ∧
    t = { s with ppu := t.ppu, irq := t.irq } ∧
    (line → p.statLine = false → t.irq = { s.irq with ifr := s.irq.ifr ||| 0x02#8 }) ∧
    (¬ line ∨ p.statLine = true → t.irq = s.irq) ∧
    t.statEval = t

/-- R350 to R354, R333: the PPU registers. Each reads the stored byte; `LCDC` with bit 7 clear resets line, counter and
mode; `STAT` keeps bits 2:0; `LY` drops the write; the rest store; every write is followed by `StatEval`. -/
def Obligations.PpuRegistersReadAndWrite : Prop :=
  ∀ (s : State) (v : Byte), let p := s.ppu
    let put (q : Ppu) : Except Refusal State := .ok (State.statEval { s with ppu := q })
    memRead s 0xFF40#16 = .ok p.lcdc ∧
    memWrite s 0xFF40#16 v = put (if v.getLsbD 7 = true then { p with lcdc := v }
      else { p with lcdc := v, ly := 0#8, ticks := 0, stat := p.stat &&& 0xFC#8 }) ∧
    memRead s 0xFF41#16 = .ok p.stat ∧
    memWrite s 0xFF41#16 v = put { p with stat := (v &&& 0xF8#8) ||| (p.stat &&& 0x07#8) } ∧
    memRead s 0xFF42#16 = .ok p.scy ∧ memWrite s 0xFF42#16 v = put { p with scy := v } ∧
    memRead s 0xFF43#16 = .ok p.scx ∧ memWrite s 0xFF43#16 v = put { p with scx := v } ∧
    memRead s 0xFF44#16 = .ok p.ly ∧ memWrite s 0xFF44#16 v = put p ∧
    memRead s 0xFF45#16 = .ok p.lyc ∧ memWrite s 0xFF45#16 v = put { p with lyc := v } ∧
    memRead s 0xFF47#16 = .ok p.bgp ∧ memWrite s 0xFF47#16 v = put { p with bgp := v } ∧
    memRead s 0xFF48#16 = .ok p.obp0 ∧ memWrite s 0xFF48#16 v = put { p with obp0 := v } ∧
    memRead s 0xFF49#16 = .ok p.obp1 ∧ memWrite s 0xFF49#16 v = put { p with obp1 := v } ∧
    memRead s 0xFF4A#16 = .ok p.wy ∧ memWrite s 0xFF4A#16 v = put { p with wy := v } ∧
    memRead s 0xFF4B#16 = .ok p.wx ∧ memWrite s 0xFF4B#16 v = put { p with wx := v }

/-- R325 to R329: one PPU tick. Off, only `StatEval` runs. Inside a visible line the counter selects the mode; inside
vertical blank the mode stays. Past 456 the counter keeps its excess and `LY` moves: to 144 with the vblank request, the
frame flag and the window reset; to a visible line with sprite selection, rendering and mode HBLANK; else nothing more.
`StatEval` ends every tick. -/
def Obligations.PpuTickWalksTheLines : Prop :=
  ∀ (s : State) (n : Nat), let p := s.ppu; let k := p.ticks + n
    let next : Byte := if p.ly = 153#8 then 0#8 else p.ly + 1#8
    let mode (q : Ppu) (m : Byte) : Byte := (q.stat &&& 0xFC#8) ||| m
    (p.lcdc.getLsbD 7 = false → s.ppuTick n = s.statEval) ∧
    (p.lcdc.getLsbD 7 = true → k ≤ 456 → p.ly.toNat < 144 →
      let m : Byte := if k ≤ 80 then 2#8 else if k ≤ 252 then 3#8 else 0#8
      s.ppuTick n = State.statEval { s with ppu := { p with ticks := k, stat := mode p m } }) ∧
    (p.lcdc.getLsbD 7 = true → k ≤ 456 → 144 ≤ p.ly.toNat →
      s.ppuTick n = State.statEval { s with ppu := { p with ticks := k } }) ∧
    (p.lcdc.getLsbD 7 = true → 456 < k → next = 144#8 →
      s.ppuTick n = State.statEval { s with
        irq := { s.irq with ifr := s.irq.ifr ||| 0x01#8 },
        ppu := { p with ticks := k - 456, ly := 144#8, stat := mode p 1#8, frameReady := true, winInFrame := false,
                        winLine := 0 } }) ∧
    (p.lcdc.getLsbD 7 = true → 456 < k → next.toNat < 144 →
      let q := (Ppu.selectSprites { p with ticks := k - 456, ly := next } s.ram next.toNat).renderLine s.params.screen s.ram next.toNat
      s.ppuTick n = State.statEval { s with ppu := { q with stat := mode q 0#8 } }) ∧
    (p.lcdc.getLsbD 7 = true → 456 < k → 144 < next.toNat →
      s.ppuTick n = State.statEval { s with ppu := { p with ticks := k - 456, ly := next } })

/-- R338: the sprites of a line are the first ten table entries whose Y range covers it, in a stable order by X. -/
def Obligations.SpriteSelectionIsTheFirstTenInXOrder : Prop :=
  ∀ (ram : Memory) (lcdc : Byte) (ly : Nat),
    let h := if lcdc.getLsbD 2 = true then 16 else 8
    let entry (i : Nat) : Sprite := { y := Memory.read ram (0xFE00 + 4 * i), x := Memory.read ram (0xFE00 + 4 * i + 1)
                                      tile := Memory.read ram (0xFE00 + 4 * i + 2), attr := Memory.read ram (0xFE00 + 4 * i + 3) }
    let found := (((List.range 40).map entry).filter
      (fun o => decide ((o.y.toNat : Int) - 16 ≤ ly ∧ (ly : Int) < (o.y.toNat : Int) - 16 + h))).take 10
    let sel := selectedSprites ram lcdc ly
    sel.Perm found ∧ sel.length ≤ 10 ∧ sel.Pairwise (fun o q => o.x.toNat ≤ q.x.toNat) ∧
    ∀ x : Byte, sel.filter (fun o => o.x == x) = found.filter (fun o => o.x == x)

/-- R339, R344, R23: rendering a line writes only that line of the framebuffer, the line buffer, and the two window items. A
line past `SCREEN_H` has no entries, so it writes none (the model's choice, log 21; it cannot occur with the default 144). -/
def Obligations.RenderingTouchesOnlyItsLine : Prop :=
  ∀ (d : Screen) (p : Ppu) (ram : Memory) (ly : Nat), let q := p.renderLine d ram ly
    q = { p with fb := q.fb, bgidx := q.bgidx, winInFrame := q.winInFrame, winLine := q.winLine } ∧
    (∀ k, k < ly * d.w ∨ ly * d.w + d.w ≤ k → q.fb.read k = p.fb.read k) ∧
    (d.h ≤ ly → q.fb = p.fb)

/-- R340 to R342: the window and background passes, for every screen size (R5). The frame flag is set when the line is `WY`;
the window is drawn if it is enabled, active in this frame and its left edge `WX - 7` is at most the last column, and then its
line counter moves on; each column gets the window's index from that edge on, else the background's, and with sprites off its
shade by `BGP`. The last column is the rules' 159 by default; that it is `SCREEN_W - 1` on another screen is the model's
choice (log 21). -/
def Obligations.EveryColumnIsWindowOrBackground : Prop :=
  ∀ (d : Screen) (p : Ppu) (ram : Memory) (ly : Nat), let q := p.renderLine d ram ly
    let edge : Int := (p.wx.toNat : Int) - 7
    let active := p.winInFrame = true ∨ ly = p.wy.toNat
    let drawn := p.lcdc.getLsbD 5 = true ∧ active ∧ edge ≤ (d.w : Int) - 1
    (q.winInFrame = true ↔ active) ∧
    (drawn → q.winLine = p.winLine + 1) ∧ (¬ drawn → q.winLine = p.winLine) ∧
    ∀ x : Nat, x < d.w →
      let idx : BitVec 2 :=
        if p.lcdc.getLsbD 5 = true ∧ (p.winInFrame = true ∨ ly = p.wy.toNat) ∧ (p.wx.toNat : Int) - 7 ≤ (d.w : Int) - 1 ∧
            (p.wx.toNat : Int) - 7 ≤ x then
          let wcol := x + 7 - p.wx.toNat
          tilePixel ram (bgTileAddr p.lcdc (mapTile ram (windowMapBase p.lcdc) p.winLine wcol)) (p.winLine % 8) (wcol % 8)
        else
          let px := (x + p.scx.toNat) % 256
          let py := (ly + p.scy.toNat) % 256
          tilePixel ram (bgTileAddr p.lcdc (mapTile ram (bgMapBase p.lcdc) py px)) (py % 8) (px % 8)
      q.bgidx.read x = idx ∧
      (p.lcdc.getLsbD 1 = false → ly < d.h → q.fb.read (x + ly * d.w) = BitVec.ofNat 2 (p.bgp.toNat / 4 ^ idx.toNat))

/-- R335, R336, R344: the tile formats. A pixel joins one bit of each of two bytes, the tile address is unsigned from 0x8000
or signed from 0x9000 by `LCDC[4]`, the map is 32 by 32 bytes at the base `LCDC[3]` or `LCDC[6]` selects, and a shade is the
palette's two bits at the index. Stated of addresses inside video RAM. -/
def Obligations.TilesMapsAndShades : Prop :=
  (∀ (ram : Memory) (a r c : Nat), a + 2 * r + 1 < 0xA000 → c < 8 →
    (tilePixel ram a r c).toNat =
      2 * ((Memory.read ram (a + 2 * r + 1)).getLsbD (7 - c)).toNat +
        ((Memory.read ram (a + 2 * r)).getLsbD (7 - c)).toNat) ∧
  (∀ (lcdc : Byte) (t : Byte), (bgTileAddr lcdc t.toNat : Int) =
    if lcdc.getLsbD 4 = true then 0x8000 + 16 * (t.toNat : Int) else 0x9000 + 16 * t.toInt) ∧
  (∀ (ram : Memory) (base row col : Nat), base + 32 * (row / 8) + col / 8 < 0xA000 →
    mapTile ram base row col = (Memory.read ram (base + 32 * (row / 8) + col / 8)).toNat) ∧
  (∀ lcdc : Byte, bgMapBase lcdc = (if lcdc.getLsbD 3 = true then 0x9C00 else 0x9800) ∧
    windowMapBase lcdc = if lcdc.getLsbD 6 = true then 0x9C00 else 0x9800) ∧
  (∀ (pal : Byte) (idx : BitVec 2), (shade pal idx).toNat = pal.toNat / 2 ^ (2 * idx.toNat) % 4)

/-- R343: the sprite pass. One sprite pixel: off the screen, transparent, or behind a non-zero background pixel, it changes
nothing; else it writes the shade of its palette at its column, and never the line buffer. The whole pass of a rendered line,
the sprites in use (`LCDC[1]`) and each covering the line (R338): a column shows the first sprite of the list, which has the
highest priority, that has a visible pixel there, and where none has, the background or window pixel. The model's choices
(log 21): a line at or past `SCREEN_H` has no entry, so a pixel there writes nothing, and on a screen of another width the
rule's 159 is `SCREEN_W - 1`. -/
def Obligations.SpritePixelsRespectPriority : Prop :=
  ∀ (d : Screen) (p : Ppu) (ram : Memory) (ly : Nat),
    let h := if p.lcdc.getLsbD 2 = true then 16 else 8
    let covers (o : Sprite) : Prop := o.y.toNat ≤ ly + 16 ∧ ly + 16 < o.y.toNat + h
    let column (o : Sprite) (c : Nat) : Int := (o.x.toNat : Int) - 8 + c
    let index (o : Sprite) (c : Nat) : BitVec 2 :=
      let row0 := ly + 16 - o.y.toNat
      let row := if o.attr.getLsbD 6 = true then h - 1 - row0 else row0
      let tile := if h = 8 then o.tile.toNat else o.tile.toNat / 2 * 2 + row / 8
      tilePixel ram (0x8000 + 16 * tile) (row % 8) (if o.attr.getLsbD 5 = true then 7 - c else c)
    let colour (o : Sprite) (c : Nat) : BitVec 2 := shade (if o.attr.getLsbD 4 = true then p.obp1 else p.obp0) (index o c)
    (∀ (o : Sprite) (c : Nat), c < 8 → covers o →
      let hidden := column o c < 0 ∨ (d.w : Int) - 1 < column o c ∨ index o c = 0#2 ∨
        (o.attr.getLsbD 7 = true ∧ p.bgidx.read (column o c).toNat ≠ 0#2)
      (hidden → p.spritePixel d ram ly o c = p) ∧
      (¬ hidden → p.spritePixel d ram ly o c =
        { p with fb := if ly < d.h then p.fb.write ((column o c).toNat + ly * d.w) (colour o c) else p.fb })) ∧
    (p.lcdc.getLsbD 1 = true → (∀ o ∈ p.sprites, covers o) → ly < d.h →
      let q := p.renderLine d ram ly
      ∀ x : Nat, x < d.w →
        let shows (o : Sprite) (c : Nat) : Prop := c < 8 ∧ column o c = (x : Int) ∧ index o c ≠ 0#2 ∧
          ¬ (o.attr.getLsbD 7 = true ∧ q.bgidx.read x ≠ 0#2)
        (∀ above o below c, p.sprites = above ++ o :: below → (∀ o' ∈ above, ∀ c', ¬ shows o' c') → shows o c →
          q.fb.read (x + ly * d.w) = colour o c) ∧
        ((∀ o ∈ p.sprites, ∀ c, ¬ shows o c) → q.fb.read (x + ly * d.w) = shade p.bgp (q.bgidx.read x)))

/-! ## Loads -/

/-- R110, R111, R140, R142: loads between registers and of immediates. Only the destination (and the reported cost) changes. -/
def Obligations.RegisterLoads : Prop :=
  (∀ y z : Reg, encode (Form.loadReg y z) = [0b01#2 ++ y.code ++ z.code] ∧
    ∀ s, exec (Form.loadReg y z) s =
      .next ((s.setReg y (s.cpu.reg z)).charge (opcodeKey (Form.loadReg y z)) 1)) ∧
  (∀ (y : Reg) (d : Byte), encode (Form.loadImm y d) = [0b00#2 ++ y.code ++ 0b110#3, d] ∧
    ∀ s, exec (Form.loadImm y d) s = .next ((s.setReg y d).charge (opcodeKey (Form.loadImm y d)) 2)) ∧
  (∀ (p : Pair) (lo hi : Byte), encode (Form.loadPair p (word hi lo)) = [0b00#2 ++ p.code ++ 0b0001#4, lo, hi] ∧
    ∀ s, exec (Form.loadPair p (word hi lo)) s =
      .next ((s.setPair p (word hi lo)).charge (opcodeKey (Form.loadPair p (word hi lo))) 3)) ∧
  (encode .ldSP_HL = [0xF9#8] ∧ ∀ s, exec .ldSP_HL s =
    .next (State.charge { s with cpu := { s.cpu with sp := word s.cpu.h s.cpu.l } } 0xF9 2))

/-- R112, R115, R116, R119, R120, R123, R126, R128: loads from memory. When the bus answers the read, the destination takes
the byte; `(HL+)` and `(HL-)` then move `HL`, wrapping; nothing else changes. -/
def Obligations.MemoryLoads : Prop :=
  (∀ y : Reg, encode (Form.loadAtHL y) = [0b01#2 ++ y.code ++ 0b110#3] ∧
    ∀ s : State, s.readable (s.cpu.pair .hl) = true → ∃ v, memRead s (s.cpu.pair .hl) = .ok v ∧
      exec (Form.loadAtHL y) s = .next ((s.setReg y v).charge (opcodeKey (Form.loadAtHL y)) 2)) ∧
  (∀ s : State, s.readable (s.cpu.pair .bc) = true → ∃ v, memRead s (s.cpu.pair .bc) = .ok v ∧
    exec .ldA_MBC s = .next ((s.setReg .a v).charge 0x0A 2)) ∧
  (∀ s : State, s.readable (s.cpu.pair .de) = true → ∃ v, memRead s (s.cpu.pair .de) = .ok v ∧
    exec .ldA_MDE s = .next ((s.setReg .a v).charge 0x1A 2)) ∧
  (∀ s : State, s.readable (s.cpu.pair .hl) = true → ∃ v, memRead s (s.cpu.pair .hl) = .ok v ∧
    exec .ldA_MHLInc s = .next (((s.setReg .a v).setPair .hl (s.cpu.pair .hl + 1#16)).charge 0x2A 2) ∧
    exec .ldA_MHLDec s = .next (((s.setReg .a v).setPair .hl (s.cpu.pair .hl - 1#16)).charge 0x3A 2)) ∧
  (∀ (s : State) (lo hi : Byte), encode (.ldA_Ma16 (word hi lo)) = [0xFA#8, lo, hi] ∧
    (s.readable (word hi lo) = true → ∃ v, memRead s (word hi lo) = .ok v ∧
      exec (.ldA_Ma16 (word hi lo)) s = .next ((s.setReg .a v).charge 0xFA 4))) ∧
  (∀ (s : State) (o : Byte), encode (.ldhA_Ma8 o) = [0xF0#8, o] ∧
    ∃ v, memRead s (0xFF00#16 + o.setWidth 16) = .ok v ∧ exec (.ldhA_Ma8 o) s = .next ((s.setReg .a v).charge 0xF0 3)) ∧
  (∀ s : State, ∃ v, memRead s (0xFF00#16 + s.cpu.c.setWidth 16) = .ok v ∧
    exec .ldA_MC s = .next ((s.setReg .a v).charge 0xF2 2)) ∧
  encode .ldA_MBC = [0x0A#8] ∧ encode .ldA_MDE = [0x1A#8] ∧ encode .ldA_MHLInc = [0x2A#8] ∧ encode .ldA_MHLDec = [0x3A#8] ∧
  encode .ldA_MC = [0xF2#8]

/-- R113, R114, R117, R118, R121, R122, R124, R127, R129, R141: stores. When the bus answers the write, the next state is
that of the bus write (whose effect `BusWritesByRegion` says), `(HL+)` and `(HL-)` then moving `HL`; no other register and
no flag changes. -/
def Obligations.MemoryStores : Prop :=
  (∀ z : Reg, encode (Form.storeAtHL z) = [0b01_110#5 ++ z.code] ∧
    ∀ s : State, s.writable (s.cpu.pair .hl) = true → ∃ t, memWrite s (s.cpu.pair .hl) (s.cpu.reg z) = .ok t ∧
      t.cpu = s.cpu ∧ exec (Form.storeAtHL z) s = .next (t.charge (opcodeKey (Form.storeAtHL z)) 2)) ∧
  (∀ (s : State) (d : Byte), encode (.ldMHL_d8 d) = [0x36#8, d] ∧
    (s.writable (s.cpu.pair .hl) = true → ∃ t, memWrite s (s.cpu.pair .hl) d = .ok t ∧ t.cpu = s.cpu ∧
      exec (.ldMHL_d8 d) s = .next (t.charge 0x36 3))) ∧
  (∀ s : State, s.writable (s.cpu.pair .bc) = true → ∃ t, memWrite s (s.cpu.pair .bc) s.cpu.a = .ok t ∧ t.cpu = s.cpu ∧
    exec .ldMBC_A s = .next (t.charge 0x02 2)) ∧
  (∀ s : State, s.writable (s.cpu.pair .de) = true → ∃ t, memWrite s (s.cpu.pair .de) s.cpu.a = .ok t ∧ t.cpu = s.cpu ∧
    exec .ldMDE_A s = .next (t.charge 0x12 2)) ∧
  (∀ s : State, s.writable (s.cpu.pair .hl) = true → ∃ t, memWrite s (s.cpu.pair .hl) s.cpu.a = .ok t ∧ t.cpu = s.cpu ∧
    exec .ldMHLInc_A s = .next ((t.setPair .hl (s.cpu.pair .hl + 1#16)).charge 0x22 2) ∧
    exec .ldMHLDec_A s = .next ((t.setPair .hl (s.cpu.pair .hl - 1#16)).charge 0x32 2)) ∧
  (∀ (s : State) (lo hi : Byte), encode (.ldMa16_A (word hi lo)) = [0xEA#8, lo, hi] ∧
    (s.writable (word hi lo) = true → ∃ t, memWrite s (word hi lo) s.cpu.a = .ok t ∧ t.cpu = s.cpu ∧
      exec (.ldMa16_A (word hi lo)) s = .next (t.charge 0xEA 4))) ∧
  (∀ (s : State) (o : Byte), encode (.ldhMa8_A o) = [0xE0#8, o] ∧
    ∃ t, memWrite s (0xFF00#16 + o.setWidth 16) s.cpu.a = .ok t ∧ t.cpu = s.cpu ∧
      exec (.ldhMa8_A o) s = .next (t.charge 0xE0 3)) ∧
  (∀ s : State, ∃ t, memWrite s (0xFF00#16 + s.cpu.c.setWidth 16) s.cpu.a = .ok t ∧ t.cpu = s.cpu ∧
    exec .ldMC_A s = .next (t.charge 0xE2 2)) ∧
  (∀ (s : State) (lo hi : Byte), encode (.ldMa16_SP (word hi lo)) = [0x08#8, lo, hi] ∧
    (s.writable (word hi lo) = true → s.writable (word hi lo + 1#16) = true →
      ∃ u t, memWrite s (word hi lo) (loByte s.cpu.sp) = .ok u ∧ memWrite u (word hi lo + 1#16) (hiByte s.cpu.sp) = .ok t ∧
        t.cpu = s.cpu ∧ exec (.ldMa16_SP (word hi lo)) s = .next (t.charge 0x08 5))) ∧
  encode .ldMBC_A = [0x02#8] ∧ encode .ldMDE_A = [0x12#8] ∧ encode .ldMHLInc_A = [0x22#8] ∧ encode .ldMHLDec_A = [0x32#8] ∧
  encode .ldMC_A = [0xE2#8]

/-- R143, R144: `PUSH` and `POP`. A push writes the high byte at `SP-1`, then the low byte at `SP-2`, and moves `SP` down by
two; a pop reads the low byte at `SP` and the high byte at `SP+1` and moves `SP` up by two. No other register and no flag
changes, but all four flags by `POP AF`, which stores `F` without its low nibble. -/
def Obligations.PushAndPop : Prop :=
  ∀ p : StackPair,
    encode (Form.push p) = [0b11#2 ++ p.code ++ 0b0101#4] ∧ encode (Form.pop p) = [0b11#2 ++ p.code ++ 0b0001#4] ∧
    (∀ s : State, s.canPush = true → ∃ t, Pushed s (s.cpu.stackPair p) t ∧ t.cpu = s.cpu ∧
      exec (Form.push p) s =
        .next (State.charge { t with cpu := { s.cpu with sp := s.cpu.sp - 2#16 } } (opcodeKey (Form.push p)) 4)) ∧
    (∀ s : State, s.canPop = true → ∃ v, Popped s v ∧
      exec (Form.pop p) s =
        .next (State.charge { s with cpu := Cpu.setStackPair { s.cpu with sp := s.cpu.sp + 2#16 } p v }
          (opcodeKey (Form.pop p)) 3))

/-- R14, R144, S2: with the stack in plain storage, popping the pair just pushed leaves every register as it was. -/
def Obligations.PopUndoesPush : Prop :=
  ∀ (p : StackPair) (s : State), s.plainStack = true → s.cpu.f &&& 0x0F#8 = 0#8 →
    ∃ t u, exec (Form.push p) s = .next t ∧ exec (Form.pop p) t = .next u ∧ u.cpu = s.cpu

/-! ## 8-bit arithmetic and logic -/

/-- R155 to R164: the eight accumulator operations on their three operand forms, in closed form. `A` (not for `CP`) and all
four flags are written, nothing else. -/
def Obligations.AccumulatorOperations : Prop :=
  ∀ (op : AluOp) (src : Source8),
    (encode (Form.alu op src) =
      match src with
      | .reg z => [0b10#2 ++ op.code ++ z.code]
      | .mem => [0b10#2 ++ op.code ++ 0b110#3]
      | .imm d => [0b11#2 ++ op.code ++ 0b110#3, d]) ∧
    ∀ s : State, (src = .mem → s.readable (s.cpu.pair .hl) = true) →
      ∃ b : Byte,
        (match src with
          | .reg z => b = s.cpu.reg z
          | .mem => memRead s (s.cpu.pair .hl) = .ok b
          | .imm d => b = d) ∧
        let a := s.cpu.a.toNat
        let n := b.toNat
        let cin := s.cpu.flags.c.toNat
        let put (r : Byte) (g : Flags) : Out :=
          .next (((s.setReg .a r).setFlags g).charge (opcodeKey (Form.alu op src))
            (match src with | .reg _ => 1 | .mem => 2 | .imm _ => 2))
        exec (Form.alu op src) s =
          match op with
          | .add => put (BitVec.ofNat 8 (a + n)) (flagsOf ((a + n) % 256 = 0) False (15 < a % 16 + n % 16) (255 < a + n))
          | .adc => put (BitVec.ofNat 8 (a + n + cin))
              (flagsOf ((a + n + cin) % 256 = 0) False (15 < a % 16 + n % 16 + cin) (255 < a + n + cin))
          | .sub => put (BitVec.ofNat 8 (a + 256 - n)) (flagsOf (a = n) True (a % 16 < n % 16) (a < n))
          | .sbc => put (BitVec.ofNat 8 (a + 512 - n - cin))
              (flagsOf ((a + 512 - n - cin) % 256 = 0) True (a % 16 < n % 16 + cin) (a < n + cin))
          | .and => put (s.cpu.a &&& b) (flagsOf (s.cpu.a &&& b = 0#8) False True False)
          | .xor => put (s.cpu.a ^^^ b) (flagsOf (s.cpu.a ^^^ b = 0#8) False False False)
          | .or => put (s.cpu.a ||| b) (flagsOf (s.cpu.a ||| b = 0#8) False False False)
          | .cp => put s.cpu.a (flagsOf (a = n) True (a % 16 < n % 16) (a < n))

/-- R165 to R168: increment and decrement of a register or of the byte at `HL`. `Z`, `N`, `HF` are written, `CF` is kept; only
the operand changes besides. -/
def Obligations.IncrementAndDecrement : Prop :=
  let up (v : Byte) (s : State) : Flags := flagsOf (v = 0xFF#8) False (v.toNat % 16 = 15) (s.cpu.flags.c = true)
  let down (v : Byte) (s : State) : Flags := flagsOf (v = 0x01#8) True (v.toNat % 16 = 0) (s.cpu.flags.c = true)
  (∀ y : Reg, encode (Form.incReg y) = [0b00#2 ++ y.code ++ 0b100#3] ∧ encode (Form.decReg y) = [0b00#2 ++ y.code ++ 0b101#3] ∧
    ∀ s : State, let v := s.cpu.reg y
      exec (Form.incReg y) s =
        .next (((s.setReg y (BitVec.ofNat 8 (v.toNat + 1))).setFlags (up v s)).charge (opcodeKey (Form.incReg y)) 1) ∧
      exec (Form.decReg y) s =
        .next (((s.setReg y (BitVec.ofNat 8 (v.toNat + 255))).setFlags (down v s)).charge (opcodeKey (Form.decReg y)) 1)) ∧
  (encode .incMHL = [0x34#8] ∧ encode .decMHL = [0x35#8] ∧
    ∀ s : State, s.readable (s.cpu.pair .hl) = true →
      ∃ v t u, memRead s (s.cpu.pair .hl) = .ok v ∧
        memWrite s (s.cpu.pair .hl) (BitVec.ofNat 8 (v.toNat + 1)) = .ok t ∧ t.cpu = s.cpu ∧
        memWrite s (s.cpu.pair .hl) (BitVec.ofNat 8 (v.toNat + 255)) = .ok u ∧ u.cpu = s.cpu ∧
        exec .incMHL s = .next ((t.setFlags (up v s)).charge 0x34 3) ∧
        exec .decMHL s = .next ((u.setFlags (down v s)).charge 0x35 3))

/-- R169 to R172: `DAA`, `CPL`, `SCF`, `CCF`. -/
def Obligations.AccumulatorAndFlagAdjustments : Prop :=
  encode .daa = [0x27#8] ∧ encode .cpl = [0x2F#8] ∧ encode .scf = [0x37#8] ∧ encode .ccf = [0x3F#8] ∧
  ∀ s : State, let a := s.cpu.a.toNat; let g := s.cpu.flags
    (let low : Bool := g.h || (!g.n && decide (0x09 < a % 16))
     let high : Bool := g.c || (!g.n && decide (0x99 < a))
     let adj : Nat := (if low then 0x06 else 0) + (if high then 0x60 else 0)
     let r : Byte := BitVec.ofNat 8 (if g.n then a + 256 - adj else a + adj)
     exec .daa s = .next (((s.setReg .a r).setFlags { z := decide (r = 0#8), n := g.n, h := false, c := high }).charge 0x27 1)) ∧
    exec .cpl s = .next (((s.setReg .a (s.cpu.a ^^^ 0xFF#8)).setFlags { z := g.z, n := true, h := true, c := g.c }).charge 0x2F 1) ∧
    exec .scf s = .next ((s.setFlags { z := g.z, n := false, h := false, c := true }).charge 0x37 1) ∧
    exec .ccf s = .next ((s.setFlags { z := g.z, n := false, h := false, c := !g.c }).charge 0x3F 1)

/-- R157, R159, R169: `DAA` after an addition or a subtraction of two-digit decimal numbers gives the two-digit decimal
result, with the decimal carry or borrow in `CF`. -/
def Obligations.DaaGivesDecimalResults : Prop :=
  ∀ (m n : Nat) (s : State), m < 100 → n < 100 → s.cpu.a = bcd m →
    (∃ t u, exec (.addA_d8 (bcd n)) s = .next t ∧ exec .daa t = .next u ∧
      u.cpu.a = bcd ((m + n) % 100) ∧ u.cpu.flags.c = decide (100 ≤ m + n)) ∧
    (∃ t u, exec (.subA_d8 (bcd n)) s = .next t ∧ exec .daa t = .next u ∧
      u.cpu.a = bcd ((m + 100 - n) % 100) ∧ u.cpu.flags.c = decide (m < n))

/-! ## 16-bit arithmetic -/

/-- R190 to R194: 16-bit arithmetic. `ADD HL,rr` keeps `Z`; `INC rr` and `DEC rr` write no flag; the two `SP` forms clear `Z`
and `N` and take their carries from the unsigned low bytes. -/
def Obligations.SixteenBitArithmetic : Prop :=
  (∀ p : Pair, encode (Form.addHL p) = [0b00#2 ++ p.code ++ 0b1001#4] ∧ encode (Form.incPair p) = [0b00#2 ++ p.code ++ 0b0011#4] ∧
    encode (Form.decPair p) = [0b00#2 ++ p.code ++ 0b1011#4] ∧
    ∀ s : State, let a := (s.cpu.pair .hl).toNat; let b := (s.cpu.pair p).toNat
      exec (Form.addHL p) s =
        .next (((s.setPair .hl (BitVec.ofNat 16 (a + b))).setFlags
          (flagsOf (s.cpu.flags.z = true) False (4095 < a % 4096 + b % 4096) (65535 < a + b))).charge
          (opcodeKey (Form.addHL p)) 2) ∧
      exec (Form.incPair p) s = .next ((s.setPair p (BitVec.ofNat 16 (b + 1))).charge (opcodeKey (Form.incPair p)) 2) ∧
      exec (Form.decPair p) s = .next ((s.setPair p (BitVec.ofNat 16 (b + 65535))).charge (opcodeKey (Form.decPair p)) 2)) ∧
  (∀ (s : State) (e : Byte), let a := s.cpu.sp.toNat; let n := e.toNat
    let r : Word := BitVec.ofInt 16 ((a : Int) + (if n < 128 then (n : Int) else (n : Int) - 256))
    let g := flagsOf False False (15 < a % 16 + n % 16) (255 < a % 256 + n)
    encode (.addSP_e8 e) = [0xE8#8, e] ∧ encode (.ldHL_SPe8 e) = [0xF8#8, e] ∧
    exec (.addSP_e8 e) s = .next ((State.setFlags { s with cpu := { s.cpu with sp := r } } g).charge 0xE8 4) ∧
    exec (.ldHL_SPe8 e) s = .next (((s.setPair .hl r).setFlags g).charge 0xF8 3))

/-! ## Rotates, shifts and bits -/

/-- R200 to R203: the accumulator rotates. `Z`, `N` and `HF` are cleared, `CF` takes the bit that leaves. -/
def Obligations.AccumulatorRotates : Prop :=
  encode .rlca = [0x07#8] ∧ encode .rrca = [0x0F#8] ∧ encode .rla = [0x17#8] ∧ encode .rra = [0x1F#8] ∧
  ∀ s : State, let a := s.cpu.a.toNat; let cf := s.cpu.flags.c.toNat
    let put (r b key : Nat) : Out :=
      .next (((s.setReg .a (BitVec.ofNat 8 r)).setFlags (flagsOf False False False (b = 1))).charge key 1)
    exec .rlca s = put (a * 2 % 256 + a / 128) (a / 128) 0x07 ∧
    exec .rrca s = put (a / 2 + a % 2 * 128) (a % 2) 0x0F ∧
    exec .rla s = put (a * 2 % 256 + cf) (a / 128) 0x17 ∧
    exec .rra s = put (a / 2 + cf * 128) (a % 2) 0x1F

/-- R204 to R215: the secondary page on a register or the byte at `HL`. Rotates and shifts write the operand back and all four
flags; `BIT` writes `Z`, `N`, `HF` and nothing back; `RES` and `SET` write the operand back and no flag. -/
def Obligations.SecondaryPage : Prop :=
  ∀ (o : Operand8) (s : State), (o = .mem → s.readable (s.cpu.pair .hl) = true) →
    ∃ v : Byte,
      (match o with | .reg z => v = s.cpu.reg z | .mem => memRead s (s.cpu.pair .hl) = .ok v) ∧
      let cost := match o with | .reg _ => 2 | .mem => 4
      let written (r : Byte) (t : State) : Prop :=
        match o with | .reg z => t = s.setReg z r | .mem => memWrite s (s.cpu.pair .hl) r = .ok t ∧ t.cpu = s.cpu
      (∀ op : RotOp, encode (Form.rotate op o) = [0xCB#8, 0b00#2 ++ op.code ++ o.code] ∧
        let r := rotated op v.toNat s.cpu.flags.c.toNat
        ∃ t, written (BitVec.ofNat 8 r) t ∧ exec (Form.rotate op o) s =
          .next ((t.setFlags (flagsOf (r = 0) False False (rotatedOut op v.toNat = 1))).charge
            (opcodeKey (Form.rotate op o)) cost)) ∧
      (∀ n : BitNo,
        encode (Form.bit n o) = [0xCB#8, 0b01#2 ++ n.code ++ o.code] ∧
        encode (Form.res n o) = [0xCB#8, 0b10#2 ++ n.code ++ o.code] ∧
        encode (Form.set n o) = [0xCB#8, 0b11#2 ++ n.code ++ o.code] ∧
        exec (Form.bit n o) s =
          .next ((s.setFlags (flagsOf (v.getLsbD n.toNat = false) False True (s.cpu.flags.c = true))).charge
            (opcodeKey (Form.bit n o)) (match o with | .reg _ => 2 | .mem => 3)) ∧
        (∃ (r : Byte) (t : State), (∀ k < 8, r.getLsbD k = (v.getLsbD k && decide (k ≠ n.toNat))) ∧ written r t ∧
          exec (Form.res n o) s = .next (t.charge (opcodeKey (Form.res n o)) cost)) ∧
        (∃ (r : Byte) (t : State), (∀ k < 8, r.getLsbD k = (v.getLsbD k || decide (k = n.toNat))) ∧ written r t ∧
          exec (Form.set n o) s = .next (t.charge (opcodeKey (Form.set n o)) cost)))

/-! ## Control transfer -/

/-- R225 to R229: jumps. Only `PC` changes; a conditional jump not taken leaves it past the instruction and costs less. -/
def Obligations.Jumps : Prop :=
  (∀ (s : State) (lo hi : Byte), encode (.jp_a16 (word hi lo)) = [0xC3#8, lo, hi] ∧
    exec (.jp_a16 (word hi lo)) s = .next ((s.setPc (word hi lo)).charge 0xC3 4)) ∧
  (∀ (s : State) (cc : Cond) (lo hi : Byte),
    encode (Form.jumpIf cc (word hi lo)) = [0b110#3 ++ cc.code ++ 0b010#3, lo, hi] ∧
    (s.cpu.holds cc = true → exec (Form.jumpIf cc (word hi lo)) s =
      .next ((s.setPc (word hi lo)).chargeTaken (opcodeKey (Form.jumpIf cc (word hi lo))) 4)) ∧
    (s.cpu.holds cc = false → exec (Form.jumpIf cc (word hi lo)) s =
      .next (s.charge (opcodeKey (Form.jumpIf cc (word hi lo))) 3))) ∧
  (encode .jpHL = [0xE9#8] ∧ ∀ s : State, exec .jpHL s = .next ((s.setPc (s.cpu.pair .hl)).charge 0xE9 1)) ∧
  (∀ (s : State) (e : Byte),
    let target : Word := BitVec.ofInt 16 ((s.cpu.pc.toNat : Int) + (if e.toNat < 128 then (e.toNat : Int) else (e.toNat : Int) - 256))
    encode (.jr_e8 e) = [0x18#8, e] ∧ exec (.jr_e8 e) s = .next ((s.setPc target).charge 0x18 3) ∧
    ∀ cc : Cond, encode (Form.jumpRelativeIf cc e) = [0b001#3 ++ cc.code ++ 0b000#3, e] ∧
      (s.cpu.holds cc = true → exec (Form.jumpRelativeIf cc e) s =
        .next ((s.setPc target).chargeTaken (opcodeKey (Form.jumpRelativeIf cc e)) 3)) ∧
      (s.cpu.holds cc = false → exec (Form.jumpRelativeIf cc e) s =
        .next (s.charge (opcodeKey (Form.jumpRelativeIf cc e)) 2)))

/-- R230 to R234, R236: calls, returns and restarts. A call pushes `PC` and jumps; a return pops `PC`; `RETI` also sets `IME`; a
condition that fails touches neither memory nor `SP`. No other register and no flag changes. -/
def Obligations.CallsReturnsAndRestarts : Prop :=
  ∀ s : State,
    let called (t : State) (a : Word) : State := { t with cpu := { s.cpu with sp := s.cpu.sp - 2#16, pc := a } }
    let returned (v : Word) (ime : Bool) : State := { s with cpu := { s.cpu with sp := s.cpu.sp + 2#16, pc := v, ime := ime } }
    (s.canPush = true → ∃ t, Pushed s s.cpu.pc t ∧
      (∀ lo hi : Byte, encode (.call_a16 (word hi lo)) = [0xCD#8, lo, hi] ∧
        exec (.call_a16 (word hi lo)) s = .next ((called t (word hi lo)).charge 0xCD 6)) ∧
      (∀ (cc : Cond) (lo hi : Byte), encode (Form.callIf cc (word hi lo)) = [0b110#3 ++ cc.code ++ 0b100#3, lo, hi] ∧
        (s.cpu.holds cc = true → exec (Form.callIf cc (word hi lo)) s =
          .next ((called t (word hi lo)).chargeTaken (opcodeKey (Form.callIf cc (word hi lo))) 6))) ∧
      (∀ y : BitNo, encode (Form.restart y) = [0b11#2 ++ y.code ++ 0b111#3] ∧
        exec (Form.restart y) s =
          .next ((called t (BitVec.ofNat 16 (y.toNat * 8))).charge (opcodeKey (Form.restart y)) 4))) ∧
    (s.canPop = true → ∃ v, Popped s v ∧
      encode .ret = [0xC9#8] ∧ exec .ret s = .next ((returned v s.cpu.ime).charge 0xC9 4) ∧
      encode .reti = [0xD9#8] ∧ exec .reti s = .next ((returned v true).charge 0xD9 4) ∧
      (∀ cc : Cond, encode (Form.retIf cc) = [0b110#3 ++ cc.code ++ 0b000#3] ∧
        (s.cpu.holds cc = true → exec (Form.retIf cc) s =
          .next ((returned v s.cpu.ime).chargeTaken (opcodeKey (Form.retIf cc)) 5)))) ∧
    (∀ (cc : Cond) (a : Word), s.cpu.holds cc = false →
      exec (Form.callIf cc a) s = .next (s.charge (opcodeKey (Form.callIf cc a)) 3) ∧
      exec (Form.retIf cc) s = .next (s.charge (opcodeKey (Form.retIf cc)) 2))

/-! ## System instructions, and what every instruction leaves alone -/

/-- R245, R248 to R251: `NOP`, `DI`, `EI`, the undefined opcodes and the prefix. `DI` and `EI` write `IME` at once; an
undefined opcode has no effect but its cost; the prefix with a second byte is the secondary-page instruction it selects. -/
def Obligations.SystemInstructions : Prop :=
  ∀ s : State,
    (encode .nop = [0x00#8] ∧ exec .nop s = .next (s.charge 0x00 1)) ∧
    (encode .di = [0xF3#8] ∧ exec .di s = .next (State.charge { s with cpu := { s.cpu with ime := false } } 0xF3 1)) ∧
    (encode .ei = [0xFB#8] ∧ exec .ei s = .next (State.charge { s with cpu := { s.cpu with ime := true } } 0xFB 1)) ∧
    (Form.undefinedOpcodes.map Prod.fst = [0xD3, 0xDB, 0xDD, 0xE3, 0xE4, 0xEB, 0xEC, 0xED, 0xF4, 0xFC, 0xFD] ∧
      ∀ e ∈ Form.undefinedOpcodes, encode e.2 = [BitVec.ofNat 8 e.1] ∧ exec e.2 s = .next (s.charge e.1 1)) ∧
    (∀ op2 : Byte, ∃ i, decode [0xCB#8, op2] = .ok (i, []) ∧ exec (.prefixCB op2) s = exec i s ∧
      (s.readable (s.cpu.pair .hl) = true → ∃ t, exec (.prefixCB op2) s = .next t))

/-- The frame of every instruction (R41, R42, R82). One that stores nothing changes CPU registers and the reported cost only,
so every address reads as before. One that stores leaves every byte of plain storage outside the stored addresses; and
if it stores to plain storage only, every address outside them, device and cartridge windows included, reads as before. -/
def Obligations.InstructionsStoreOnlyWhereTheySay : Prop :=
  ∀ (i : Instr) (s t : State), exec i s = .next t →
    (storedAddrs i s = [] → t = { s with cpu := t.cpu, cost := t.cost } ∧ ∀ a, memRead t a = memRead s a) ∧
    (∀ a, plainStorage a = true → (∀ b ∈ storedAddrs i s, ramHome s.params b ≠ ramHome s.params a) →
      memRead t a = memRead s a) ∧
    ((∀ b ∈ storedAddrs i s, plainStorage b = true) →
      ∀ a, (∀ b ∈ storedAddrs i s, ramHome s.params b ≠ ramHome s.params a) → memRead t a = memRead s a)
end

