-- ==== Sys2Proof/Laws/Memory.lean ====
section
/-! SUPPORT. The laws of sparse storage: reading after writing, and that every operation keeps the canonical form, so
that equal contents are equal data. -/

namespace Sys2Proof

namespace Sparse

variable {w : Nat}

@[simp] theorem read_nil (k : Nat) : read ([] : Sparse w) k = unlisted w := rfl

@[simp] theorem read_cons (c : Nat × BitVec w) (m : Sparse w) (k : Nat) :
    read (c :: m) k = if c.1 = k then c.2 else read m k := rfl

theorem read_erase (m : Sparse w) (k j : Nat) : read (erase m k) j = if k = j then unlisted w else read m j := by
  induction m with
  | nil => simp [erase]
  | cons c r ih =>
    by_cases h : c.1 = k
    · have e : erase (c :: r) k = erase r k := by simp [erase, h]
      rw [e, ih, read_cons]
      by_cases hj : k = j <;> simp [h, hj]
    · have e : erase (c :: r) k = c :: erase r k := by simp [erase, h]
      rw [e, read_cons, ih, read_cons]
      by_cases hj : c.1 = j
      · simp only [hj, if_true]
        rw [if_neg (fun hk : k = j => h (hj.trans hk.symm))]
      · simp [hj]

/-- No pair of the storage has key `k`. -/
def Free (m : Sparse w) (k : Nat) : Prop := ∀ c ∈ m, c.1 ≠ k

theorem free_erase (m : Sparse w) (k : Nat) : Free (erase m k) k := by
  intro c hc
  simp only [erase, List.mem_filter] at hc
  simpa using hc.2

theorem read_free {m : Sparse w} {k : Nat} (h : Free m k) : read m k = unlisted w := by
  induction m with
  | nil => rfl
  | cons c r ih =>
    rw [read_cons, if_neg (h c (by simp))]
    exact ih fun d hd => h d (by simp [hd])

theorem read_insert {m : Sparse w} {k : Nat} (hf : Free m k) (v : BitVec w) (j : Nat) :
    read (insert m k v) j = if k = j then v else read m j := by
  induction m with
  | nil => simp [insert]
  | cons c r ih =>
    have hc : c.1 ≠ k := hf c (by simp)
    have hr : Free r k := fun d hd => hf d (by simp [hd])
    simp only [insert]
    split
    · simp
    · rw [read_cons, ih hr, read_cons]
      by_cases h1 : c.1 = j
      · rw [if_pos h1, if_neg (fun hk : k = j => hc (h1.trans hk.symm)), if_pos h1]
      · simp [h1]

/-- Reading after writing: the value at the key written, everything else as before. Holds of every list. -/
theorem read_write (m : Sparse w) (k : Nat) (v : BitVec w) (j : Nat) :
    read (write m k v) j = if k = j then v else read m j := by
  unfold write
  split
  · rename_i h
    rw [read_erase, h]
  · rw [read_insert (free_erase m k), read_erase]
    by_cases h : k = j <;> simp [h]

@[simp] theorem read_write_self (m : Sparse w) (k : Nat) (v : BitVec w) : read (write m k v) k = v := by
  simp [read_write]

theorem read_write_ne (m : Sparse w) {k j : Nat} (v : BitVec w) (h : k ≠ j) : read (write m k v) j = read m j := by
  simp [read_write, h]

theorem wfFrom_cons (lo : Nat) (c : Nat × BitVec w) (m : Sparse w) :
    wfFrom lo (c :: m) = true ↔ lo ≤ c.1 ∧ c.2 ≠ unlisted w ∧ wfFrom (c.1 + 1) m = true := by
  simp [wfFrom, and_assoc]

theorem wfFrom_mono {lo lo' : Nat} {m : Sparse w} (h : wfFrom lo' m = true) (hl : lo ≤ lo') : wfFrom lo m = true := by
  cases m with
  | nil => rfl
  | cons c r => rw [wfFrom_cons] at *; exact ⟨hl.trans h.1, h.2⟩

theorem erase_cons (c : Nat × BitVec w) (m : Sparse w) (k : Nat) :
    erase (c :: m) k = if c.1 = k then erase m k else c :: erase m k := by
  by_cases h : c.1 = k <;> simp [erase, h]

theorem wfFrom_erase {lo : Nat} {m : Sparse w} (h : wfFrom lo m = true) (k : Nat) : wfFrom lo (erase m k) = true := by
  induction m generalizing lo with
  | nil => rfl
  | cons c r ih =>
    rw [wfFrom_cons] at h
    rw [erase_cons]
    split
    · exact ih (wfFrom_mono h.2.2 (by omega))
    · rw [wfFrom_cons]; exact ⟨h.1, h.2.1, ih h.2.2⟩

theorem wfFrom_insert {lo : Nat} {m : Sparse w} {k : Nat} {v : BitVec w} (h : wfFrom lo m = true) (hf : Free m k)
    (hk : lo ≤ k) (hv : v ≠ unlisted w) : wfFrom lo (insert m k v) = true := by
  induction m generalizing lo with
  | nil => simp [insert, wfFrom, hk, hv]
  | cons c r ih =>
    rw [wfFrom_cons] at h
    have hc : c.1 ≠ k := hf c (by simp)
    simp only [insert]
    split
    · rw [wfFrom_cons, wfFrom_cons]
      exact ⟨hk, hv, by assumption, h.2.1, h.2.2⟩
    · rw [wfFrom_cons]
      exact ⟨h.1, h.2.1, ih h.2.2 (fun d hd => hf d (by simp [hd])) (by omega)⟩

/-- Writing keeps the canonical form. -/
theorem wf_write {m : Sparse w} (h : wf m = true) (k : Nat) (v : BitVec w) : wf (write m k v) = true := by
  unfold wf write at *
  split
  · exact wfFrom_erase h k
  · exact wfFrom_insert (wfFrom_erase h k) (free_erase m k) (Nat.zero_le k) (by assumption)

theorem wfFrom_ofList (k : Nat) (l : List (BitVec w)) : wfFrom k (ofList k l) = true := by
  induction l generalizing k with
  | nil => rfl
  | cons v r ih =>
    simp only [ofList]
    split
    · exact wfFrom_mono (ih (k + 1)) (by omega)
    · rw [wfFrom_cons]; exact ⟨le_refl k, by assumption, ih (k + 1)⟩

/-- A list of values gives a storage in canonical form. -/
theorem wf_ofList (k : Nat) (l : List (BitVec w)) : wf (ofList k l) = true :=
  wfFrom_mono (wfFrom_ofList k l) (Nat.zero_le k)

/-- Below its first key a canonical storage reads as unlisted. -/
theorem read_below {lo : Nat} {m : Sparse w} (h : wfFrom lo m = true) {k : Nat} (hk : k < lo) : read m k = unlisted w := by
  induction m generalizing lo with
  | nil => rfl
  | cons c r ih =>
    rw [wfFrom_cons] at h
    rw [read_cons, if_neg (by omega)]
    exact ih h.2.2 (by omega)

theorem ext_from {lo : Nat} {m n : Sparse w} (hm : wfFrom lo m = true) (hn : wfFrom lo n = true)
    (h : ∀ k, read m k = read n k) : m = n := by
  induction m generalizing lo n with
  | nil =>
    cases n with
    | nil => rfl
    | cons d q =>
      rw [wfFrom_cons] at hn
      have := h d.1
      simp at this
      exact absurd this.symm hn.2.1
  | cons c r ih =>
    rw [wfFrom_cons] at hm
    cases n with
    | nil =>
      have := h c.1
      simp at this
      exact absurd this hm.2.1
    | cons d q =>
      rw [wfFrom_cons] at hn
      have hcd : c.1 = d.1 := by
        rcases Nat.lt_trichotomy c.1 d.1 with hl | he | hl
        · have := h c.1
          rw [read_cons, if_pos rfl, read_cons, if_neg (by omega), read_below hn.2.2 (by omega)] at this
          exact absurd this hm.2.1
        · exact he
        · have := h d.1
          rw [read_cons, if_neg (by omega), read_below hm.2.2 (by omega), read_cons, if_pos rfl] at this
          exact absurd this.symm hn.2.1
      have hv : c.2 = d.2 := by
        have := h c.1
        rwa [read_cons, if_pos rfl, read_cons, if_pos hcd.symm] at this
      have hr : r = q := by
        refine ih hm.2.2 (hcd ▸ hn.2.2) fun k => ?_
        by_cases hk : k < c.1 + 1
        · rw [read_below hm.2.2 hk, read_below hn.2.2 (by omega)]
        · have := h k
          rwa [read_cons, if_neg (by omega), read_cons, if_neg (by omega)] at this
      rw [hr, Prod.ext hcd hv]

/-- Canonical storages that read alike are the same data. -/
theorem ext_of_wf {m n : Sparse w} (hm : wf m = true) (hn : wf n = true) (h : ∀ k, read m k = read n k) : m = n :=
  ext_from hm hn h

end Sparse

namespace Memory

theorem read_write (m : Memory) (k : Nat) (v : Byte) (j : Nat) :
    Memory.read (Memory.write m k v) j = if k = j then v else Memory.read m j := Sparse.read_write m k v j

@[simp] theorem read_write_self (m : Memory) (k : Nat) (v : Byte) : Memory.read (Memory.write m k v) k = v :=
  Sparse.read_write_self m k v

theorem read_write_ne (m : Memory) {k j : Nat} (v : Byte) (h : k ≠ j) :
    Memory.read (Memory.write m k v) j = Memory.read m j := Sparse.read_write_ne m v h

/-- Storing a byte keeps the canonical form. -/
theorem wf_write {m : Memory} (h : Memory.wf m = true) (k : Nat) (v : Byte) : Memory.wf (Memory.write m k v) = true :=
  Sparse.wf_write h k v

/-- An image is in canonical form. -/
theorem wf_ofBytes (l : List Byte) : Memory.wf (Memory.ofBytes l) = true := Sparse.wf_ofList 0 l

theorem wf_nil : Memory.wf [] = true := rfl

end Memory

end Sys2Proof
end

