-- ==== Sys2Proof/Laws/State.lean ====
section
/-! SUPPORT. One lemma per field and per named update of the state: what the update writes, and that it leaves every
other field alone. -/

namespace Sys2Proof.Machine

section Registers

variable (p : Cpu)

@[simp] theorem Cpu.setReg_f (r : Reg) (v : Byte) : (p.setReg r v).f = p.f := by cases r <;> rfl
@[simp] theorem Cpu.setReg_sp (r : Reg) (v : Byte) : (p.setReg r v).sp = p.sp := by cases r <;> rfl
@[simp] theorem Cpu.setReg_pc (r : Reg) (v : Byte) : (p.setReg r v).pc = p.pc := by cases r <;> rfl
@[simp] theorem Cpu.setReg_ime (r : Reg) (v : Byte) : (p.setReg r v).ime = p.ime := by cases r <;> rfl
@[simp] theorem Cpu.setReg_mode (r : Reg) (v : Byte) : (p.setReg r v).mode = p.mode := by cases r <;> rfl
@[simp] theorem Cpu.setReg_serviced (r : Reg) (v : Byte) : (p.setReg r v).serviced = p.serviced := by cases r <;> rfl
@[simp] theorem Cpu.setReg_reg_self (r : Reg) (v : Byte) : (p.setReg r v).reg r = v := by cases r <;> rfl
theorem Cpu.setReg_reg_ne {r q : Reg} (v : Byte) (h : q ≠ r) : (p.setReg r v).reg q = p.reg q := by
  cases r <;> cases q <;> first | rfl | exact absurd rfl h

@[simp] theorem Cpu.setPair_f (r : Pair) (v : Word) : (p.setPair r v).f = p.f := by cases r <;> rfl
@[simp] theorem Cpu.setPair_pc (r : Pair) (v : Word) : (p.setPair r v).pc = p.pc := by cases r <;> rfl
@[simp] theorem Cpu.setPair_ime (r : Pair) (v : Word) : (p.setPair r v).ime = p.ime := by cases r <;> rfl
@[simp] theorem Cpu.setPair_mode (r : Pair) (v : Word) : (p.setPair r v).mode = p.mode := by cases r <;> rfl
@[simp] theorem Cpu.setPair_serviced (r : Pair) (v : Word) : (p.setPair r v).serviced = p.serviced := by cases r <;> rfl

@[simp] theorem Cpu.setStackPair_sp (r : StackPair) (v : Word) : (p.setStackPair r v).sp = p.sp := by cases r <;> rfl
@[simp] theorem Cpu.setStackPair_pc (r : StackPair) (v : Word) : (p.setStackPair r v).pc = p.pc := by cases r <;> rfl
@[simp] theorem Cpu.setStackPair_ime (r : StackPair) (v : Word) : (p.setStackPair r v).ime = p.ime := by cases r <;> rfl
@[simp] theorem Cpu.setStackPair_mode (r : StackPair) (v : Word) : (p.setStackPair r v).mode = p.mode := by cases r <;> rfl
@[simp] theorem Cpu.setStackPair_serviced (r : StackPair) (v : Word) : (p.setStackPair r v).serviced = p.serviced := by
  cases r <;> rfl

@[simp] theorem Cpu.setFlags_f (g : Flags) : (p.setFlags g).f = g.pack := rfl
@[simp] theorem Cpu.setFlags_reg (g : Flags) (r : Reg) : (p.setFlags g).reg r = p.reg r := by cases r <;> rfl
@[simp] theorem Cpu.setFlags_sp (g : Flags) : (p.setFlags g).sp = p.sp := rfl
@[simp] theorem Cpu.setFlags_pc (g : Flags) : (p.setFlags g).pc = p.pc := rfl

/-- The packed flags are the four bits (R12). -/
theorem Flags.pack_bits (g : Flags) :
    (⟨g.pack.getLsbD 7, g.pack.getLsbD 6, g.pack.getLsbD 5, g.pack.getLsbD 4⟩ : Flags) = g := by
  obtain ⟨z, n, h, c⟩ := g
  cases z <;> cases n <;> cases h <;> cases c <;> decide

/-- The flags read back as written (R12). -/
@[simp] theorem Cpu.setFlags_flags (g : Flags) : (p.setFlags g).flags = g := Flags.pack_bits g

/-- The packed flags have `F[3:0] = 0` (R13). -/
@[simp] theorem Flags.pack_low (g : Flags) : g.pack &&& 0x0F#8 = 0#8 := by
  obtain ⟨z, n, h, c⟩ := g
  cases z <;> cases n <;> cases h <;> cases c <;> rfl

end Registers

section Words

theorem word_toNat (h l : Byte) : (word h l).toNat = h.toNat * 256 + l.toNat := by
  unfold word
  rw [BitVec.toNat_append, ← Nat.shiftLeft_add_eq_or_of_lt l.isLt, Nat.shiftLeft_eq]

theorem hiByte_toNat (w : Word) : (hiByte w).toNat = w.toNat / 256 := by
  have := w.isLt
  simp only [hiByte, BitVec.extractLsb'_toNat, Nat.shiftRight_eq_div_pow]; omega

theorem loByte_toNat (w : Word) : (loByte w).toNat = w.toNat % 256 := by
  simp [loByte, BitVec.extractLsb'_toNat]

@[simp] theorem hiByte_word (h l : Byte) : hiByte (word h l) = h := by
  apply BitVec.eq_of_toNat_eq
  have := l.isLt
  rw [hiByte_toNat, word_toNat]; omega

@[simp] theorem loByte_word (h l : Byte) : loByte (word h l) = l := by
  apply BitVec.eq_of_toNat_eq
  have := l.isLt
  rw [loByte_toNat, word_toNat]; omega

/-- A word is its two bytes. -/
@[simp] theorem word_hi_lo (w : Word) : word (hiByte w) (loByte w) = w := by
  apply BitVec.eq_of_toNat_eq
  rw [word_toNat, hiByte_toNat, loByte_toNat]; omega

end Words

section StateUpdates

variable (s : State)

@[simp] theorem State.withCpu_cpu (p : Cpu) : (s.withCpu p).cpu = p := rfl
@[simp] theorem State.withCpu_irq (p : Cpu) : (s.withCpu p).irq = s.irq := rfl
@[simp] theorem State.withCpu_timer (p : Cpu) : (s.withCpu p).timer = s.timer := rfl
@[simp] theorem State.withCpu_dma (p : Cpu) : (s.withCpu p).dma = s.dma := rfl
@[simp] theorem State.withCpu_joypad (p : Cpu) : (s.withCpu p).joypad = s.joypad := rfl
@[simp] theorem State.withCpu_ppu (p : Cpu) : (s.withCpu p).ppu = s.ppu := rfl
@[simp] theorem State.withCpu_ram (p : Cpu) : (s.withCpu p).ram = s.ram := rfl
@[simp] theorem State.withCpu_cart (p : Cpu) : (s.withCpu p).cart = s.cart := rfl
@[simp] theorem State.withCpu_cost (p : Cpu) : (s.withCpu p).cost = s.cost := rfl
@[simp] theorem State.withCpu_cycles (p : Cpu) : (s.withCpu p).cycles = s.cycles := rfl
@[simp] theorem State.withCpu_params (p : Cpu) : (s.withCpu p).params = s.params := rfl

@[simp] theorem State.setReg_cpu (r : Reg) (v : Byte) : (s.setReg r v).cpu = s.cpu.setReg r v := rfl
@[simp] theorem State.setReg_irq (r : Reg) (v : Byte) : (s.setReg r v).irq = s.irq := rfl
@[simp] theorem State.setReg_timer (r : Reg) (v : Byte) : (s.setReg r v).timer = s.timer := rfl
@[simp] theorem State.setReg_dma (r : Reg) (v : Byte) : (s.setReg r v).dma = s.dma := rfl
@[simp] theorem State.setReg_joypad (r : Reg) (v : Byte) : (s.setReg r v).joypad = s.joypad := rfl
@[simp] theorem State.setReg_ppu (r : Reg) (v : Byte) : (s.setReg r v).ppu = s.ppu := rfl
@[simp] theorem State.setReg_ram (r : Reg) (v : Byte) : (s.setReg r v).ram = s.ram := rfl
@[simp] theorem State.setReg_cart (r : Reg) (v : Byte) : (s.setReg r v).cart = s.cart := rfl
@[simp] theorem State.setReg_cost (r : Reg) (v : Byte) : (s.setReg r v).cost = s.cost := rfl
@[simp] theorem State.setReg_cycles (r : Reg) (v : Byte) : (s.setReg r v).cycles = s.cycles := rfl
@[simp] theorem State.setReg_params (r : Reg) (v : Byte) : (s.setReg r v).params = s.params := rfl

@[simp] theorem State.setPair_cpu (r : Pair) (v : Word) : (s.setPair r v).cpu = s.cpu.setPair r v := rfl
@[simp] theorem State.setPair_irq (r : Pair) (v : Word) : (s.setPair r v).irq = s.irq := rfl
@[simp] theorem State.setPair_timer (r : Pair) (v : Word) : (s.setPair r v).timer = s.timer := rfl
@[simp] theorem State.setPair_dma (r : Pair) (v : Word) : (s.setPair r v).dma = s.dma := rfl
@[simp] theorem State.setPair_joypad (r : Pair) (v : Word) : (s.setPair r v).joypad = s.joypad := rfl
@[simp] theorem State.setPair_ppu (r : Pair) (v : Word) : (s.setPair r v).ppu = s.ppu := rfl
@[simp] theorem State.setPair_ram (r : Pair) (v : Word) : (s.setPair r v).ram = s.ram := rfl
@[simp] theorem State.setPair_cart (r : Pair) (v : Word) : (s.setPair r v).cart = s.cart := rfl
@[simp] theorem State.setPair_cost (r : Pair) (v : Word) : (s.setPair r v).cost = s.cost := rfl
@[simp] theorem State.setPair_cycles (r : Pair) (v : Word) : (s.setPair r v).cycles = s.cycles := rfl
@[simp] theorem State.setPair_params (r : Pair) (v : Word) : (s.setPair r v).params = s.params := rfl

@[simp] theorem State.setStackPair_cpu (r : StackPair) (v : Word) : (s.setStackPair r v).cpu = s.cpu.setStackPair r v := rfl
@[simp] theorem State.setStackPair_irq (r : StackPair) (v : Word) : (s.setStackPair r v).irq = s.irq := rfl
@[simp] theorem State.setStackPair_timer (r : StackPair) (v : Word) : (s.setStackPair r v).timer = s.timer := rfl
@[simp] theorem State.setStackPair_dma (r : StackPair) (v : Word) : (s.setStackPair r v).dma = s.dma := rfl
@[simp] theorem State.setStackPair_joypad (r : StackPair) (v : Word) : (s.setStackPair r v).joypad = s.joypad := rfl
@[simp] theorem State.setStackPair_ppu (r : StackPair) (v : Word) : (s.setStackPair r v).ppu = s.ppu := rfl
@[simp] theorem State.setStackPair_ram (r : StackPair) (v : Word) : (s.setStackPair r v).ram = s.ram := rfl
@[simp] theorem State.setStackPair_cart (r : StackPair) (v : Word) : (s.setStackPair r v).cart = s.cart := rfl
@[simp] theorem State.setStackPair_cost (r : StackPair) (v : Word) : (s.setStackPair r v).cost = s.cost := rfl
@[simp] theorem State.setStackPair_cycles (r : StackPair) (v : Word) : (s.setStackPair r v).cycles = s.cycles := rfl
@[simp] theorem State.setStackPair_params (r : StackPair) (v : Word) : (s.setStackPair r v).params = s.params := rfl

@[simp] theorem State.setFlags_cpu (g : Flags) : (s.setFlags g).cpu = s.cpu.setFlags g := rfl
@[simp] theorem State.setFlags_irq (g : Flags) : (s.setFlags g).irq = s.irq := rfl
@[simp] theorem State.setFlags_timer (g : Flags) : (s.setFlags g).timer = s.timer := rfl
@[simp] theorem State.setFlags_dma (g : Flags) : (s.setFlags g).dma = s.dma := rfl
@[simp] theorem State.setFlags_joypad (g : Flags) : (s.setFlags g).joypad = s.joypad := rfl
@[simp] theorem State.setFlags_ppu (g : Flags) : (s.setFlags g).ppu = s.ppu := rfl
@[simp] theorem State.setFlags_ram (g : Flags) : (s.setFlags g).ram = s.ram := rfl
@[simp] theorem State.setFlags_cart (g : Flags) : (s.setFlags g).cart = s.cart := rfl
@[simp] theorem State.setFlags_cost (g : Flags) : (s.setFlags g).cost = s.cost := rfl
@[simp] theorem State.setFlags_cycles (g : Flags) : (s.setFlags g).cycles = s.cycles := rfl
@[simp] theorem State.setFlags_params (g : Flags) : (s.setFlags g).params = s.params := rfl

@[simp] theorem State.setPc_cpu (v : Word) : (s.setPc v).cpu = { s.cpu with pc := v } := rfl
@[simp] theorem State.setPc_irq (v : Word) : (s.setPc v).irq = s.irq := rfl
@[simp] theorem State.setPc_timer (v : Word) : (s.setPc v).timer = s.timer := rfl
@[simp] theorem State.setPc_dma (v : Word) : (s.setPc v).dma = s.dma := rfl
@[simp] theorem State.setPc_joypad (v : Word) : (s.setPc v).joypad = s.joypad := rfl
@[simp] theorem State.setPc_ppu (v : Word) : (s.setPc v).ppu = s.ppu := rfl
@[simp] theorem State.setPc_ram (v : Word) : (s.setPc v).ram = s.ram := rfl
@[simp] theorem State.setPc_cart (v : Word) : (s.setPc v).cart = s.cart := rfl
@[simp] theorem State.setPc_cost (v : Word) : (s.setPc v).cost = s.cost := rfl
@[simp] theorem State.setPc_cycles (v : Word) : (s.setPc v).cycles = s.cycles := rfl
@[simp] theorem State.setPc_params (v : Word) : (s.setPc v).params = s.params := rfl

@[simp] theorem State.setSp_cpu (v : Word) : (s.setSp v).cpu = { s.cpu with sp := v } := rfl
@[simp] theorem State.setSp_irq (v : Word) : (s.setSp v).irq = s.irq := rfl
@[simp] theorem State.setSp_timer (v : Word) : (s.setSp v).timer = s.timer := rfl
@[simp] theorem State.setSp_dma (v : Word) : (s.setSp v).dma = s.dma := rfl
@[simp] theorem State.setSp_joypad (v : Word) : (s.setSp v).joypad = s.joypad := rfl
@[simp] theorem State.setSp_ppu (v : Word) : (s.setSp v).ppu = s.ppu := rfl
@[simp] theorem State.setSp_ram (v : Word) : (s.setSp v).ram = s.ram := rfl
@[simp] theorem State.setSp_cart (v : Word) : (s.setSp v).cart = s.cart := rfl
@[simp] theorem State.setSp_cost (v : Word) : (s.setSp v).cost = s.cost := rfl
@[simp] theorem State.setSp_cycles (v : Word) : (s.setSp v).cycles = s.cycles := rfl
@[simp] theorem State.setSp_params (v : Word) : (s.setSp v).params = s.params := rfl

@[simp] theorem State.setIme_cpu (v : Bool) : (s.setIme v).cpu = { s.cpu with ime := v } := rfl
@[simp] theorem State.setIme_irq (v : Bool) : (s.setIme v).irq = s.irq := rfl
@[simp] theorem State.setIme_timer (v : Bool) : (s.setIme v).timer = s.timer := rfl
@[simp] theorem State.setIme_dma (v : Bool) : (s.setIme v).dma = s.dma := rfl
@[simp] theorem State.setIme_joypad (v : Bool) : (s.setIme v).joypad = s.joypad := rfl
@[simp] theorem State.setIme_ppu (v : Bool) : (s.setIme v).ppu = s.ppu := rfl
@[simp] theorem State.setIme_ram (v : Bool) : (s.setIme v).ram = s.ram := rfl
@[simp] theorem State.setIme_cart (v : Bool) : (s.setIme v).cart = s.cart := rfl
@[simp] theorem State.setIme_cost (v : Bool) : (s.setIme v).cost = s.cost := rfl
@[simp] theorem State.setIme_cycles (v : Bool) : (s.setIme v).cycles = s.cycles := rfl
@[simp] theorem State.setIme_params (v : Bool) : (s.setIme v).params = s.params := rfl

@[simp] theorem State.setMode_cpu (m : RunMode) : (s.setMode m).cpu = { s.cpu with mode := m } := rfl
@[simp] theorem State.setMode_irq (m : RunMode) : (s.setMode m).irq = s.irq := rfl
@[simp] theorem State.setMode_timer (m : RunMode) : (s.setMode m).timer = s.timer := rfl
@[simp] theorem State.setMode_dma (m : RunMode) : (s.setMode m).dma = s.dma := rfl
@[simp] theorem State.setMode_joypad (m : RunMode) : (s.setMode m).joypad = s.joypad := rfl
@[simp] theorem State.setMode_ppu (m : RunMode) : (s.setMode m).ppu = s.ppu := rfl
@[simp] theorem State.setMode_ram (m : RunMode) : (s.setMode m).ram = s.ram := rfl
@[simp] theorem State.setMode_cart (m : RunMode) : (s.setMode m).cart = s.cart := rfl
@[simp] theorem State.setMode_cost (m : RunMode) : (s.setMode m).cost = s.cost := rfl
@[simp] theorem State.setMode_cycles (m : RunMode) : (s.setMode m).cycles = s.cycles := rfl
@[simp] theorem State.setMode_params (m : RunMode) : (s.setMode m).params = s.params := rfl

@[simp] theorem State.setServiced_cpu (v : Bool) : (s.setServiced v).cpu = { s.cpu with serviced := v } := rfl
@[simp] theorem State.setServiced_irq (v : Bool) : (s.setServiced v).irq = s.irq := rfl
@[simp] theorem State.setServiced_timer (v : Bool) : (s.setServiced v).timer = s.timer := rfl
@[simp] theorem State.setServiced_dma (v : Bool) : (s.setServiced v).dma = s.dma := rfl
@[simp] theorem State.setServiced_joypad (v : Bool) : (s.setServiced v).joypad = s.joypad := rfl
@[simp] theorem State.setServiced_ppu (v : Bool) : (s.setServiced v).ppu = s.ppu := rfl
@[simp] theorem State.setServiced_ram (v : Bool) : (s.setServiced v).ram = s.ram := rfl
@[simp] theorem State.setServiced_cart (v : Bool) : (s.setServiced v).cart = s.cart := rfl
@[simp] theorem State.setServiced_cost (v : Bool) : (s.setServiced v).cost = s.cost := rfl
@[simp] theorem State.setServiced_cycles (v : Bool) : (s.setServiced v).cycles = s.cycles := rfl
@[simp] theorem State.setServiced_params (v : Bool) : (s.setServiced v).params = s.params := rfl

@[simp] theorem State.charge_cost (k n : Nat) : (s.charge k n).cost = Params.baseCost s.params k n := rfl
@[simp] theorem State.charge_cpu (k n : Nat) : (s.charge k n).cpu = s.cpu := rfl
@[simp] theorem State.charge_irq (k n : Nat) : (s.charge k n).irq = s.irq := rfl
@[simp] theorem State.charge_timer (k n : Nat) : (s.charge k n).timer = s.timer := rfl
@[simp] theorem State.charge_dma (k n : Nat) : (s.charge k n).dma = s.dma := rfl
@[simp] theorem State.charge_joypad (k n : Nat) : (s.charge k n).joypad = s.joypad := rfl
@[simp] theorem State.charge_ppu (k n : Nat) : (s.charge k n).ppu = s.ppu := rfl
@[simp] theorem State.charge_ram (k n : Nat) : (s.charge k n).ram = s.ram := rfl
@[simp] theorem State.charge_cart (k n : Nat) : (s.charge k n).cart = s.cart := rfl
@[simp] theorem State.charge_cycles (k n : Nat) : (s.charge k n).cycles = s.cycles := rfl
@[simp] theorem State.charge_params (k n : Nat) : (s.charge k n).params = s.params := rfl

@[simp] theorem State.chargeTaken_cost (k n : Nat) : (s.chargeTaken k n).cost = Params.takenCost s.params k n := rfl
@[simp] theorem State.chargeTaken_cpu (k n : Nat) : (s.chargeTaken k n).cpu = s.cpu := rfl
@[simp] theorem State.chargeTaken_irq (k n : Nat) : (s.chargeTaken k n).irq = s.irq := rfl
@[simp] theorem State.chargeTaken_timer (k n : Nat) : (s.chargeTaken k n).timer = s.timer := rfl
@[simp] theorem State.chargeTaken_dma (k n : Nat) : (s.chargeTaken k n).dma = s.dma := rfl
@[simp] theorem State.chargeTaken_joypad (k n : Nat) : (s.chargeTaken k n).joypad = s.joypad := rfl
@[simp] theorem State.chargeTaken_ppu (k n : Nat) : (s.chargeTaken k n).ppu = s.ppu := rfl
@[simp] theorem State.chargeTaken_ram (k n : Nat) : (s.chargeTaken k n).ram = s.ram := rfl
@[simp] theorem State.chargeTaken_cart (k n : Nat) : (s.chargeTaken k n).cart = s.cart := rfl
@[simp] theorem State.chargeTaken_cycles (k n : Nat) : (s.chargeTaken k n).cycles = s.cycles := rfl
@[simp] theorem State.chargeTaken_params (k n : Nat) : (s.chargeTaken k n).params = s.params := rfl

@[simp] theorem State.setOam_ram (i : Nat) (v : Byte) : (s.setOam i v).ram = s.ram.write (0xFE00 + i) v := rfl
@[simp] theorem State.setOam_cpu (i : Nat) (v : Byte) : (s.setOam i v).cpu = s.cpu := rfl
@[simp] theorem State.setOam_irq (i : Nat) (v : Byte) : (s.setOam i v).irq = s.irq := rfl
@[simp] theorem State.setOam_timer (i : Nat) (v : Byte) : (s.setOam i v).timer = s.timer := rfl
@[simp] theorem State.setOam_dma (i : Nat) (v : Byte) : (s.setOam i v).dma = s.dma := rfl
@[simp] theorem State.setOam_joypad (i : Nat) (v : Byte) : (s.setOam i v).joypad = s.joypad := rfl
@[simp] theorem State.setOam_ppu (i : Nat) (v : Byte) : (s.setOam i v).ppu = s.ppu := rfl
@[simp] theorem State.setOam_cart (i : Nat) (v : Byte) : (s.setOam i v).cart = s.cart := rfl
@[simp] theorem State.setOam_cost (i : Nat) (v : Byte) : (s.setOam i v).cost = s.cost := rfl
@[simp] theorem State.setOam_cycles (i : Nat) (v : Byte) : (s.setOam i v).cycles = s.cycles := rfl
@[simp] theorem State.setOam_params (i : Nat) (v : Byte) : (s.setOam i v).params = s.params := rfl

@[simp] theorem State.requestIf_irq (i : Source) (b : Bool) :
    (s.requestIf i b).irq = if b then s.irq.request i else s.irq := by cases b <;> rfl
@[simp] theorem State.requestIf_cpu (i : Source) (b : Bool) : (s.requestIf i b).cpu = s.cpu := by cases b <;> rfl
@[simp] theorem State.requestIf_timer (i : Source) (b : Bool) : (s.requestIf i b).timer = s.timer := by cases b <;> rfl
@[simp] theorem State.requestIf_dma (i : Source) (b : Bool) : (s.requestIf i b).dma = s.dma := by cases b <;> rfl
@[simp] theorem State.requestIf_joypad (i : Source) (b : Bool) : (s.requestIf i b).joypad = s.joypad := by cases b <;> rfl
@[simp] theorem State.requestIf_ppu (i : Source) (b : Bool) : (s.requestIf i b).ppu = s.ppu := by cases b <;> rfl
@[simp] theorem State.requestIf_ram (i : Source) (b : Bool) : (s.requestIf i b).ram = s.ram := by cases b <;> rfl
@[simp] theorem State.requestIf_cart (i : Source) (b : Bool) : (s.requestIf i b).cart = s.cart := by cases b <;> rfl
@[simp] theorem State.requestIf_cost (i : Source) (b : Bool) : (s.requestIf i b).cost = s.cost := by cases b <;> rfl
@[simp] theorem State.requestIf_cycles (i : Source) (b : Bool) : (s.requestIf i b).cycles = s.cycles := by cases b <;> rfl
@[simp] theorem State.requestIf_params (i : Source) (b : Bool) : (s.requestIf i b).params = s.params := by cases b <;> rfl

@[simp] theorem State.statEval_ppu : s.statEval.ppu = s.ppu.statEval.1 := by simp [State.statEval]
@[simp] theorem State.statEval_irq :
    s.statEval.irq = if s.ppu.statEval.2 then s.irq.request .lcdStatus else s.irq := by simp [State.statEval]
@[simp] theorem State.statEval_cpu : s.statEval.cpu = s.cpu := by simp [State.statEval]
@[simp] theorem State.statEval_timer : s.statEval.timer = s.timer := by simp [State.statEval]
@[simp] theorem State.statEval_dma : s.statEval.dma = s.dma := by simp [State.statEval]
@[simp] theorem State.statEval_joypad : s.statEval.joypad = s.joypad := by simp [State.statEval]
@[simp] theorem State.statEval_ram : s.statEval.ram = s.ram := by simp [State.statEval]
@[simp] theorem State.statEval_cart : s.statEval.cart = s.cart := by simp [State.statEval]
@[simp] theorem State.statEval_cost : s.statEval.cost = s.cost := by simp [State.statEval]
@[simp] theorem State.statEval_cycles : s.statEval.cycles = s.cycles := by simp [State.statEval]
@[simp] theorem State.statEval_params : s.statEval.params = s.params := by simp [State.statEval]
@[simp] theorem State.writePpu_cpu (p : Ppu) : (s.writePpu p).cpu = s.cpu := by simp [State.writePpu]
@[simp] theorem State.writePpu_timer (p : Ppu) : (s.writePpu p).timer = s.timer := by simp [State.writePpu]
@[simp] theorem State.writePpu_dma (p : Ppu) : (s.writePpu p).dma = s.dma := by simp [State.writePpu]
@[simp] theorem State.writePpu_joypad (p : Ppu) : (s.writePpu p).joypad = s.joypad := by simp [State.writePpu]
@[simp] theorem State.writePpu_ram (p : Ppu) : (s.writePpu p).ram = s.ram := by simp [State.writePpu]
@[simp] theorem State.writePpu_cart (p : Ppu) : (s.writePpu p).cart = s.cart := by simp [State.writePpu]
@[simp] theorem State.writePpu_cost (p : Ppu) : (s.writePpu p).cost = s.cost := by simp [State.writePpu]
@[simp] theorem State.writePpu_cycles (p : Ppu) : (s.writePpu p).cycles = s.cycles := by simp [State.writePpu]
@[simp] theorem State.writePpu_params (p : Ppu) : (s.writePpu p).params = s.params := by simp [State.writePpu]
@[simp] theorem State.writePpu_ppu (p : Ppu) : (s.writePpu p).ppu = p.statEval.1 := by simp [State.writePpu]

@[simp] theorem State.timerTick_timer (n : Nat) : (s.timerTick n).timer = (s.timer.tick n).1 := by simp [State.timerTick]
@[simp] theorem State.timerTick_cpu (n : Nat) : (s.timerTick n).cpu = s.cpu := by simp [State.timerTick]
@[simp] theorem State.timerTick_dma (n : Nat) : (s.timerTick n).dma = s.dma := by simp [State.timerTick]
@[simp] theorem State.timerTick_joypad (n : Nat) : (s.timerTick n).joypad = s.joypad := by simp [State.timerTick]
@[simp] theorem State.timerTick_ppu (n : Nat) : (s.timerTick n).ppu = s.ppu := by simp [State.timerTick]
@[simp] theorem State.timerTick_ram (n : Nat) : (s.timerTick n).ram = s.ram := by simp [State.timerTick]
@[simp] theorem State.timerTick_cart (n : Nat) : (s.timerTick n).cart = s.cart := by simp [State.timerTick]
@[simp] theorem State.timerTick_cost (n : Nat) : (s.timerTick n).cost = s.cost := by simp [State.timerTick]
@[simp] theorem State.timerTick_cycles (n : Nat) : (s.timerTick n).cycles = s.cycles := by simp [State.timerTick]
@[simp] theorem State.timerTick_params (n : Nat) : (s.timerTick n).params = s.params := by simp [State.timerTick]

@[simp] theorem State.ppuTick_ppu (n : Nat) : (s.ppuTick n).ppu = (s.ppu.advance s.params.screen s.ram n).1.statEval.1 := by simp [State.ppuTick]
@[simp] theorem State.ppuTick_cpu (n : Nat) : (s.ppuTick n).cpu = s.cpu := by simp [State.ppuTick]
@[simp] theorem State.ppuTick_timer (n : Nat) : (s.ppuTick n).timer = s.timer := by simp [State.ppuTick]
@[simp] theorem State.ppuTick_dma (n : Nat) : (s.ppuTick n).dma = s.dma := by simp [State.ppuTick]
@[simp] theorem State.ppuTick_joypad (n : Nat) : (s.ppuTick n).joypad = s.joypad := by simp [State.ppuTick]
@[simp] theorem State.ppuTick_ram (n : Nat) : (s.ppuTick n).ram = s.ram := by simp [State.ppuTick]
@[simp] theorem State.ppuTick_cart (n : Nat) : (s.ppuTick n).cart = s.cart := by simp [State.ppuTick]
@[simp] theorem State.ppuTick_cost (n : Nat) : (s.ppuTick n).cost = s.cost := by simp [State.ppuTick]
@[simp] theorem State.ppuTick_cycles (n : Nat) : (s.ppuTick n).cycles = s.cycles := by simp [State.ppuTick]
@[simp] theorem State.ppuTick_params (n : Nat) : (s.ppuTick n).params = s.params := by simp [State.ppuTick]

end StateUpdates

end Sys2Proof.Machine
end

