-- ==== Sys2Proof/Laws/Bus.lean ====
section
/-! SUPPORT. The laws of the bus: the region of an address, which accesses are answered, and what a write leaves alone. -/

namespace Sys2Proof.Machine

section Regions

/-- The addresses of a region (R43). -/
def Region.spans (r : Region) (n : Nat) : Prop :=
  match r with
  | .rom => n < 0x8000
  | .vram => 0x8000 ≤ n ∧ n < 0xA000
  | .xram => 0xA000 ≤ n ∧ n < 0xC000
  | .wram => 0xC000 ≤ n ∧ n < 0xE000
  | .echo => 0xE000 ≤ n ∧ n < 0xFE00
  | .oam => 0xFE00 ≤ n ∧ n < 0xFEA0
  | .unused => 0xFEA0 ≤ n ∧ n < 0xFF00
  | .io => 0xFF00 ≤ n ∧ n < 0xFF80
  | .hram => 0xFF80 ≤ n ∧ n < 0xFFFF
  | .ie => n = 0xFFFF

/-- The ten regions cover the address space, each with its range. Case on `regionOf a` with this fact at hand. -/
theorem regionOf_spans (a : Word) : (regionOf a).spans a.toNat := by
  have := a.isLt
  unfold regionOf
  simp only
  split_ifs <;> simp only [Region.spans] <;> omega

/-- The ranges are disjoint: an address of a region's range is in that region. -/
theorem regionOf_eq {a : Word} {r : Region} (h : r.spans a.toNat) : regionOf a = r := by
  have ha := regionOf_spans a
  cases hr : regionOf a <;> rw [hr] at ha <;> cases r <;> simp only [Region.spans] at h ha <;> first | rfl | omega

variable {a : Word}

theorem regionOf_rom (h : a.toNat < 0x8000) : regionOf a = .rom := regionOf_eq h
theorem regionOf_vram (h : 0x8000 ≤ a.toNat) (h' : a.toNat < 0xA000) : regionOf a = .vram := regionOf_eq ⟨h, h'⟩
theorem regionOf_xram (h : 0xA000 ≤ a.toNat) (h' : a.toNat < 0xC000) : regionOf a = .xram := regionOf_eq ⟨h, h'⟩
theorem regionOf_wram (h : 0xC000 ≤ a.toNat) (h' : a.toNat < 0xE000) : regionOf a = .wram := regionOf_eq ⟨h, h'⟩
theorem regionOf_echo (h : 0xE000 ≤ a.toNat) (h' : a.toNat < 0xFE00) : regionOf a = .echo := regionOf_eq ⟨h, h'⟩
theorem regionOf_oam (h : 0xFE00 ≤ a.toNat) (h' : a.toNat < 0xFEA0) : regionOf a = .oam := regionOf_eq ⟨h, h'⟩
theorem regionOf_unused (h : 0xFEA0 ≤ a.toNat) (h' : a.toNat < 0xFF00) : regionOf a = .unused := regionOf_eq ⟨h, h'⟩
theorem regionOf_io (h : 0xFF00 ≤ a.toNat) (h' : a.toNat < 0xFF80) : regionOf a = .io := regionOf_eq ⟨h, h'⟩
theorem regionOf_hram (h : 0xFF80 ≤ a.toNat) (h' : a.toNat < 0xFFFF) : regionOf a = .hram := regionOf_eq ⟨h, h'⟩
theorem regionOf_ie (h : a.toNat = 0xFFFF) : regionOf a = .ie := regionOf_eq h

theorem plainStorage_iff (a : Word) : plainStorage a = true ↔
    regionOf a = .vram ∨ regionOf a = .wram ∨ regionOf a = .echo ∨ regionOf a = .oam ∨ regionOf a = .unused ∨
      regionOf a = .hram := by
  have hn := regionOf_spans a
  cases h : regionOf a <;> simp only [h, Region.spans] at hn <;> simp [plainStorage] <;> omega

end Regions

section Echo

theorem echoOffset_lt (p : Params) (n : Nat) : Params.echoOffset p n < 8192 := by
  unfold Params.echoOffset; exact Nat.mod_lt _ (by norm_num)

theorem lookup_nil_getD {l : List (Nat × Nat)} (h : l = []) (n k : Nat) : (l.lookup n).getD k = k := by subst h; rfl

/-- The textbook mirror (R45). -/
theorem echoOffset_plain {p : Params} (h : p.echo = []) {n : Nat} (h0 : 0xE000 ≤ n) (h1 : n < 0xFE00) :
    Params.echoOffset p n = n - 0xE000 := by
  unfold Params.echoOffset
  rw [lookup_nil_getD h]
  exact Nat.mod_eq_of_lt (by omega)

theorem ramHome_echo (p : Params) {a : Word} (h : regionOf a = .echo) : ramHome p a = 0xC000 + Params.echoOffset p a.toNat := by
  simp only [ramHome, h]

theorem ramHome_self (p : Params) {a : Word} (h : regionOf a ≠ .echo) : ramHome p a = a.toNat := by
  unfold ramHome; split
  · contradiction
  · rfl

end Echo

section Plain

variable (s : State) {a : Word}

theorem memRead_plain (h : plainStorage a = true) : memRead s a = .ok (Memory.read s.ram (ramHome s.params a)) := by
  rcases (plainStorage_iff a).1 h with h | h | h | h | h | h <;> simp [memRead, h]

theorem memWrite_plain (h : plainStorage a = true) (v : Byte) :
    memWrite s a v = .ok { s with ram := Memory.write s.ram (ramHome s.params a) v } := by
  rcases (plainStorage_iff a).1 h with h | h | h | h | h | h <;> simp [memWrite, h]

/-- A read outside plain storage does not depend on the RAM arrays. -/
theorem memRead_withRam (m : Memory) (h : plainStorage a = false) : memRead { s with ram := m } a = memRead s a := by
  have h' : ¬ _ := fun hp => Bool.false_ne_true (h.symm.trans ((plainStorage_iff a).2 hp))
  cases h : regionOf a
  case rom | xram | io | ie => simp only [memRead, h] <;> rfl
  all_goals exact absurd (by simp [h]) h'

/-- A bus access does not see the CPU registers, the reported cost or the cycles. -/
theorem memRead_withCpu (p : Cpu) (n c : Nat) (a : Word) :
    memRead { s with cpu := p, cost := n, cycles := c } a = memRead s a := by
  simp only [memRead]
  cases regionOf a <;> rfl

theorem readable_withCpu (p : Cpu) (n c : Nat) (a : Word) :
    State.readable { s with cpu := p, cost := n, cycles := c } a = s.readable a := rfl

end Plain

section Answers

variable (s : State) (a : Word)

theorem Cart.romRead_cases (c : Cart) (n : Nat) :
    (c.romAnswers n = true ∧ ∃ v, c.romRead n = .ok v) ∨
      (c.romAnswers n = false ∧ c.romRead n = .error .romOutOfRange ∧ ∃ r, c.ctrl = .mbc3 r) := by
  unfold Cart.romAnswers Cart.romRead
  cases hc : c.ctrl with
  | none => exact .inl ⟨rfl, _, rfl⟩
  | mbc1 r => exact .inl ⟨rfl, _, rfl⟩
  | mbc3 r =>
    by_cases h : n < 0x4000 ∨ romOffset r.romBank.toNat n < c.romSize
    · refine .inl ⟨by simpa [Cart.romSize] using h, ?_⟩
      simp only [if_pos h]; exact ⟨_, rfl⟩
    · refine .inr ⟨by simpa [Cart.romSize] using h, ?_, r, rfl⟩
      simp only [if_neg h]

theorem Cart.xramRead_cases (c : Cart) (n : Nat) :
    (c.xramAnswers n = true ∧ ∃ v, c.xramRead n = .ok v) ∨
      (c.xramAnswers n = false ∧ c.xramRead n = .error .xramOutOfRange ∧ c.ramSize ≠ 0) := by
  have hz : c.ramSize = 0 → c.ramBankOpen = none := fun h => by simp [Cart.ramBankOpen, h]
  unfold Cart.xramAnswers Cart.xramRead
  cases hb : c.ramBankOpen with
  | none => exact .inl ⟨rfl, _, rfl⟩
  | some b =>
    have hn : c.ramSize ≠ 0 := fun h => by rw [hz h] at hb; cases hb
    by_cases h : b * 0x2000 + (n - 0xA000) < c.ramSize
    · refine .inl ⟨by simpa using h, ?_⟩
      simp only [if_pos h]; exact ⟨_, rfl⟩
    · refine .inr ⟨by simpa using h, ?_, hn⟩
      simp only [if_neg h]

theorem Cart.xramWrite_cases (c : Cart) (n : Nat) (v : Byte) :
    (c.xramAnswers n = true ∧ ∃ m, c.xramWrite n v = .ok { c with xram := m } ∧ (m = c.xram ∨ ∃ k, m = Memory.write c.xram k v)) ∨
      (c.xramAnswers n = false ∧ c.xramWrite n v = .error .xramOutOfRange ∧ c.ramSize ≠ 0) := by
  have hz : c.ramSize = 0 → c.ramBankOpen = none := fun h => by simp [Cart.ramBankOpen, h]
  unfold Cart.xramAnswers Cart.xramWrite
  cases hb : c.ramBankOpen with
  | none => exact .inl ⟨rfl, c.xram, rfl, .inl rfl⟩
  | some b =>
    have hn : c.ramSize ≠ 0 := fun h => by rw [hz h] at hb; cases hb
    by_cases h : b * 0x2000 + (n - 0xA000) < c.ramSize
    · refine .inl ⟨by simpa using h, ?_⟩
      simp only [if_pos h]; exact ⟨_, rfl, .inr ⟨_, rfl⟩⟩
    · refine .inr ⟨by simpa using h, ?_, hn⟩
      simp only [if_neg h]

/-- A bus read is answered, or it is refused by name. -/
theorem memRead_cases : (s.readable a = true ∧ ∃ v, memRead s a = .ok v) ∨
    (s.readable a = false ∧ a.toNat < 0x8000 ∧ memRead s a = .error .romOutOfRange ∧ ∃ r, s.cart.ctrl = .mbc3 r) ∨
    (s.readable a = false ∧ 0x8000 ≤ a.toNat ∧ memRead s a = .error .xramOutOfRange ∧ s.cart.ramSize ≠ 0) := by
  have hn := regionOf_spans a
  cases h : regionOf a <;> simp only [h, Region.spans] at hn
  case rom =>
    rcases Cart.romRead_cases s.cart a.toNat with ⟨h1, h2⟩ | ⟨h1, h2, h3⟩
    · exact .inl ⟨by simp [State.readable, hn, h1], by simpa [memRead, h] using h2⟩
    · exact .inr (.inl ⟨by simp [State.readable, hn, h1], hn, by simpa [memRead, h] using h2, h3⟩)
  case xram =>
    rcases Cart.xramRead_cases s.cart a.toNat with ⟨h1, h2⟩ | ⟨h1, h2, h3⟩
    · exact .inl ⟨by rw [State.readable, if_neg (by omega), if_pos hn, h1], by simpa [memRead, h] using h2⟩
    · exact .inr (.inr ⟨by rw [State.readable, if_neg (by omega), if_pos hn, h1], by omega, by simpa [memRead, h] using h2, h3⟩)
  all_goals refine .inl ⟨by rw [State.readable, if_neg (by omega), if_neg (by omega)], ?_⟩
  all_goals simp only [memRead, h]
  case io => cases ioRegAt a <;> exact ⟨_, rfl⟩
  all_goals exact ⟨_, rfl⟩

theorem memRead_of_readable {s : State} {a : Word} (h : s.readable a = true) : ∃ v, memRead s a = .ok v := by
  rcases memRead_cases s a with ⟨_, h'⟩ | ⟨h', _⟩ | ⟨h', _⟩
  · exact h'
  · simp [h] at h'
  · simp [h] at h'

theorem readable_of_plain {s : State} {a : Word} (h : plainStorage a = true) : s.readable a = true := by
  simp only [plainStorage, Bool.or_eq_true, Bool.and_eq_true, decide_eq_true_eq] at h
  rw [State.readable, if_neg (by omega), if_neg (by omega)]

theorem writable_of_plain {s : State} {a : Word} (h : plainStorage a = true) : s.writable a = true := by
  simp only [plainStorage, Bool.or_eq_true, Bool.and_eq_true, decide_eq_true_eq] at h
  rw [State.writable, if_neg (by omega)]

theorem writable_of_readable {s : State} {a : Word} (h : s.readable a = true) : s.writable a = true := by
  by_cases hx : 0xA000 ≤ a.toNat ∧ a.toNat < 0xC000
  · rw [State.readable, if_neg (by omega), if_pos hx] at h
    rw [State.writable, if_pos hx, h]
  · rw [State.writable, if_neg hx]

/-- The high page is always answered. -/
theorem readable_highPage (s : State) (o : Byte) : s.readable (highPage o) = true := by
  have : (highPage o).toNat = 0xFF00 + o.toNat := by rw [highPage, word_toNat]; rfl
  rw [State.readable, if_neg (by omega), if_neg (by omega)]

end Answers

/-- What a bus write leaves alone, whatever its address. -/
structure Untouched (s t : State) : Prop where
  cpu : t.cpu = s.cpu
  rom : t.cart.rom = s.cart.rom
  title : t.cart.title = s.cart.title
  bankCount : t.cart.bankCount = s.cart.bankCount
  ramSize : t.cart.ramSize = s.cart.ramSize
  cost : t.cost = s.cost
  cycles : t.cycles = s.cycles
  params : t.params = s.params

theorem writeIo_untouched (s : State) (r : IoReg) (v : Byte) : Untouched s (s.writeIo r v) := by
  cases r <;> constructor <;> simp [State.writeIo]

theorem romWrite_keeps (c : Cart) (n : Nat) (v : Byte) :
    (c.romWrite n v).rom = c.rom ∧ (c.romWrite n v).title = c.title ∧ (c.romWrite n v).bankCount = c.bankCount ∧
      (c.romWrite n v).ramSize = c.ramSize ∧ (c.romWrite n v).xram = c.xram := by
  unfold Cart.romWrite; cases c.ctrl <;> simp

/-- A bus write is answered, or it is refused by name. -/
theorem memWrite_cases (s : State) (a : Word) (v : Byte) :
    (s.writable a = true ∧ ∃ t, memWrite s a v = .ok t ∧ Untouched s t) ∨
      (s.writable a = false ∧ memWrite s a v = .error .xramOutOfRange ∧ s.cart.ramSize ≠ 0) := by
  have hn := regionOf_spans a
  cases h : regionOf a <;> simp only [h, Region.spans] at hn
  case xram =>
    rcases Cart.xramWrite_cases s.cart a.toNat v with ⟨h1, m, h2, -⟩ | ⟨h1, h2, h3⟩
    · refine .inl ⟨by rw [State.writable, if_pos hn, h1], _, by simp only [memWrite, h, h2]; rfl, ?_⟩
      constructor <;> rfl
    · exact .inr ⟨by rw [State.writable, if_pos hn, h1], by simp [memWrite, h, h2], h3⟩
  all_goals refine .inl ⟨by rw [State.writable, if_neg (by omega)], ?_⟩
  case rom =>
    refine ⟨_, by simp [memWrite, h]; rfl, ?_⟩
    have hk := romWrite_keeps s.cart a.toNat v
    exact ⟨rfl, hk.1, hk.2.1, hk.2.2.1, hk.2.2.2.1, rfl, rfl, rfl⟩
  case io =>
    simp only [memWrite, h]
    cases ioRegAt a with
    | none => exact ⟨_, rfl, by constructor <;> rfl⟩
    | some r => exact ⟨_, rfl, writeIo_untouched s r v⟩
  all_goals simp only [memWrite, h]
  all_goals exact ⟨_, rfl, by constructor <;> rfl⟩

theorem memWrite_of_writable {s : State} {a : Word} (h : s.writable a = true) (v : Byte) :
    ∃ t, memWrite s a v = .ok t ∧ Untouched s t := by
  rcases memWrite_cases s a v with ⟨_, h'⟩ | ⟨h', _⟩
  · exact h'
  · simp [h] at h'

theorem memWrite_untouched {s t : State} {a : Word} {v : Byte} (h : memWrite s a v = .ok t) : Untouched s t := by
  rcases memWrite_cases s a v with ⟨_, u, h1, h2⟩ | ⟨_, h1, _⟩
  · rw [h1] at h; cases h; exact h2
  · rw [h1] at h; cases h

/-- What a bus write does to the cartridge: its controller stays, or it is the controller's own register write. -/
theorem memWrite_ctrl {s t : State} {a : Word} {v : Byte} (h : memWrite s a v = .ok t) :
    t.cart.ctrl = s.cart.ctrl ∨ t.cart = s.cart.romWrite a.toNat v := by
  cases hr : regionOf a <;> simp only [memWrite, hr] at h
  case rom => cases h; exact .inr rfl
  case xram =>
    rcases Cart.xramWrite_cases s.cart a.toNat v with ⟨_, m, h2, _⟩ | ⟨_, h2, _⟩
    · rw [h2] at h; cases h; exact .inl rfl
    · rw [h2] at h; cases h
  case io =>
    cases hi : ioRegAt a with
    | none => rw [hi] at h; cases h; exact .inl rfl
    | some i => rw [hi] at h; cases h; cases i <;> simp [State.writeIo]
  all_goals (cases h; exact .inl rfl)

/-- The controller's kind survives a bus write. -/
theorem memWrite_kind {s t : State} {a : Word} {v : Byte} (h : memWrite s a v = .ok t) :
    (s.cart.ctrl = .none → t.cart.ctrl = .none) ∧ ((∃ r, s.cart.ctrl = .mbc1 r) → ∃ r, t.cart.ctrl = .mbc1 r) ∧
      ((∃ r, s.cart.ctrl = .mbc3 r) → ∃ r, t.cart.ctrl = .mbc3 r) := by
  rcases memWrite_ctrl h with e | e <;> rw [e]
  · exact ⟨id, id, id⟩
  · refine ⟨fun hc => ?_, fun ⟨r, hc⟩ => ?_, fun ⟨r, hc⟩ => ?_⟩ <;> simp [Cart.romWrite, hc]

/-- A write outside the ROM window leaves the controller's registers. -/
theorem memWrite_ctrl_high {s t : State} {a : Word} {v : Byte} (h : memWrite s a v = .ok t) (ha : 0x8000 ≤ a.toNat) :
    t.cart.ctrl = s.cart.ctrl := by
  have hn := regionOf_spans a
  cases hr : regionOf a <;> simp only [hr, Region.spans] at hn <;> simp only [memWrite, hr] at h
  case rom => omega
  case xram =>
    rcases Cart.xramWrite_cases s.cart a.toNat v with ⟨_, m, h2, _⟩ | ⟨_, h2, _⟩
    · rw [h2] at h; cases h; rfl
    · rw [h2] at h; cases h
  case io =>
    cases hi : ioRegAt a with
    | none => rw [hi] at h; cases h; rfl
    | some i => rw [hi] at h; cases h; cases i <;> simp [State.writeIo]
  all_goals (cases h; rfl)

/-- A write does not change whether a neighbouring address is answered: a push or a 16-bit store is answered whole. -/
theorem writable_after {s t : State} {a b : Word} {v : Byte} (h : memWrite s a v = .ok t)
    (hb : b = a + 1#16 ∨ b = a - 1#16) : t.writable b = s.writable b := by
  unfold State.writable
  by_cases hx : 0xA000 ≤ b.toNat ∧ b.toNat < 0xC000
  · rw [if_pos hx, if_pos hx]
    have ha : 0x8000 ≤ a.toNat := by
      have := a.isLt
      rcases hb with rfl | rfl
      · rw [BitVec.toNat_add] at hx; simp only [BitVec.toNat_ofNat] at hx; omega
      · rw [BitVec.toNat_sub] at hx; simp only [BitVec.toNat_ofNat] at hx; omega
    have hc := memWrite_ctrl_high h ha
    have hr := (memWrite_untouched h).ramSize
    simp only [Cart.xramAnswers, Cart.ramBankOpen, hc, hr]
  · rw [if_neg hx, if_neg hx]

/-- On a cartridge that never refuses, external RAM answers every address. -/
theorem xramAnswers_never {c : Cart} (h : c.neverRefuses = true) {n : Nat} (hn : n < 0xC000) : c.xramAnswers n = true := by
  unfold Cart.neverRefuses at h
  unfold Cart.xramAnswers Cart.ramBankOpen
  by_cases h0 : c.ramSize = 0
  · simp [h0]
  rw [if_neg h0]
  cases hc : c.ctrl with
  | none => rfl
  | mbc3 r => simp [hc] at h
  | mbc1 r =>
    simp [hc, h0] at h
    have := r.ramBank.isLt
    by_cases he : r.ramEnable = true
    · simp [he]; omega
    · simp [he]

/-- A bus write keeps the cartridge one that never refuses. -/
theorem memWrite_never {s t : State} {a : Word} {v : Byte} (h : memWrite s a v = .ok t)
    (hs : s.cart.neverRefuses = true) : t.cart.neverRefuses = true := by
  have hr := (memWrite_untouched h).ramSize
  have hk := memWrite_kind h
  unfold Cart.neverRefuses at *
  rw [hr]
  cases hc : s.cart.ctrl with
  | none => rw [hk.1 hc]
  | mbc1 r =>
    obtain ⟨q, hq⟩ := hk.2.1 ⟨r, hc⟩
    rw [hc] at hs; rw [hq]; exact hs
  | mbc3 r => simp [hc] at hs

/-- A bus write does not see the CPU registers, the reported cost or the cycles. -/
theorem memWrite_withCpu {s t : State} {a : Word} {v : Byte} (h : memWrite s a v = .ok t) (p : Cpu) (n c : Nat) :
    memWrite { s with cpu := p, cost := n, cycles := c } a v = .ok { t with cpu := p, cost := n, cycles := c } := by
  revert h
  simp only [memWrite]
  cases regionOf a <;> intro h
  case io =>
    cases hr : ioRegAt a with
    | none => rw [hr] at h; cases h; rfl
    | some r =>
      rw [hr] at h; cases h
      cases r <;> first
        | rfl
        | (simp only [State.writeIo, State.writePpu, State.statEval, State.requestIf, Ppu.statEval]; split <;> rfl)
  case xram =>
    revert h
    cases s.cart.xramWrite a.toNat v <;> intro h <;> cases h
    rfl
  all_goals (cases h; rfl)

end Sys2Proof.Machine
end

