-- ==== Sys2Proof/Laws/Exec.lean ====
section
/-! SUPPORT. What an instruction can do, said once: `exec_answer` gives for every instruction the addresses it stores to,
that apart from those stores it changes CPU registers and the reported cost only, the bounds of its cost, and the two
reasons it can be refused. Later proofs cite it and unfold no meaning. -/

namespace Sys2Proof.Machine

/-- `t` is reached from `s` by bus writes at the addresses of the list, in order, and changes of the CPU registers and the
reported cost that keep `F[3:0]` zero. -/
inductive Effect : State → List Word → State → Prop where
  | cpu (s : State) (p : Cpu) (n : Nat) (h : s.cpu.f &&& 0x0F#8 = 0#8 → p.f &&& 0x0F#8 = 0#8) :
      Effect s [] { s with cpu := p, cost := n }
  | store {s u t : State} {a : Word} {v : Byte} {l : List Word} (h : memWrite s a v = .ok u) (r : Effect u l t) :
      Effect s (a :: l) t
  | move {s t : State} {l : List Word} (p : Cpu) (h : s.cpu.f &&& 0x0F#8 = 0#8 → p.f &&& 0x0F#8 = 0#8)
      (r : Effect { s with cpu := p } l t) : Effect s l t

/-- The two reasons a bus access is refused, each with what it needs of the cartridge. -/
def Refused (s : State) (o : Out) : Prop :=
  (o = .refused .xramOutOfRange ∧ s.cart.ramSize ≠ 0 ∧ s.cart.neverRefuses = false) ∨ (o = .refused .romOutOfRange ∧ ∃ r, s.cart.ctrl = .mbc3 r)

/-- What an outcome of an instruction that stores to the addresses `l` is. -/
def Answer (s : State) (l : List Word) (o : Out) : Prop :=
  (∃ t, o = .next t ∧ Effect s l t ∧ (s.params.cost = [] → 1 ≤ t.cost ∧ t.cost ≤ 6)) ∨ Refused s o

@[simp] theorem onOk_ok {α : Type} (x : α) (k : α → Out) : onOk (.ok x) k = k x := rfl
@[simp] theorem onOk_error {α : Type} (r : Refusal) (k : α → Out) : onOk (.error r) k = .refused r := rfl
@[simp] theorem thenDo_next (s : State) (k : State → Out) : thenDo (.next s) k = k s := rfl
@[simp] theorem thenDo_refused (r : Refusal) (k : State → Out) : thenDo (.refused r) k = .refused r := rfl

theorem baseCost_plain {p : Params} (h : p.cost = []) (key n : Nat) : Params.baseCost p key n = n := by
  simp [Params.baseCost, h]

theorem takenCost_plain {p : Params} (h : p.cost = []) (key n : Nat) : Params.takenCost p key n = n := by
  simp [Params.takenCost, h]

theorem refused_of_read {s : State} {a : Word} {r : Refusal} (h : memRead s a = .error r) : Refused s (.refused r) := by
  rcases memRead_cases s a with ⟨_, _, h1⟩ | ⟨_, _, h1, h2⟩ | ⟨h0, hn, h1, h2⟩ <;> rw [h1] at h <;> cases h
  · exact .inr ⟨rfl, h2⟩
  · refine .inl ⟨rfl, h2, ?_⟩
    by_contra hc
    rw [Bool.not_eq_false] at hc
    by_cases hx : 0xA000 ≤ a.toNat ∧ a.toNat < 0xC000
    · rw [State.readable, if_neg (by omega), if_pos hx, xramAnswers_never hc hx.2] at h0; cases h0
    · rw [State.readable, if_neg (by omega), if_neg hx] at h0; cases h0

theorem refused_of_write {s : State} {a : Word} {v : Byte} {r : Refusal} (h : memWrite s a v = .error r) :
    Refused s (.refused r) := by
  rcases memWrite_cases s a v with ⟨_, _, h1, _⟩ | ⟨h0, h1, h2⟩ <;> rw [h1] at h <;> cases h
  refine .inl ⟨rfl, h2, ?_⟩
  by_contra hc
  rw [Bool.not_eq_false] at hc
  by_cases hx : 0xA000 ≤ a.toNat ∧ a.toNat < 0xC000
  · rw [State.writable, if_pos hx, xramAnswers_never hc hx.2] at h0; cases h0
  · rw [State.writable, if_neg hx] at h0; cases h0

/-- A reason to refuse after a bus write is one before it. -/
theorem refused_before_write {s t : State} {a : Word} {v : Byte} (h : memWrite s a v = .ok t) {o : Out} (r : Refused t o) :
    Refused s o := by
  rcases r with ⟨h1, h2, h3⟩ | ⟨h1, r, h2⟩
  · refine .inl ⟨h1, (memWrite_untouched h).ramSize ▸ h2, ?_⟩
    by_contra hc
    rw [Bool.not_eq_false] at hc
    rw [memWrite_never h hc] at h3; cases h3
  · refine .inr ⟨h1, ?_⟩
    have hk := memWrite_kind h
    cases hc : s.cart.ctrl with
    | none => rw [hk.1 hc] at h2; cases h2
    | mbc1 q => obtain ⟨q', hq⟩ := hk.2.1 ⟨q, hc⟩; rw [hq] at h2; cases h2
    | mbc3 q => exact ⟨q, rfl⟩

section Compose

variable {s : State} {l : List Word}

theorem answer_done {p : Cpu} {t : State} {key n : Nat} (ht : t = { s with cpu := p })
    (h : s.cpu.f &&& 0x0F#8 = 0#8 → p.f &&& 0x0F#8 = 0#8) (h1 : 1 ≤ n) (h6 : n ≤ 6) : Answer s [] (done t key n) := by
  subst ht
  refine .inl ⟨_, rfl, Effect.cpu s p _ h, fun hc => ?_⟩
  show 1 ≤ Params.baseCost s.params key n ∧ Params.baseCost s.params key n ≤ 6
  rw [baseCost_plain hc]; exact ⟨h1, h6⟩

theorem answer_taken {p : Cpu} {t : State} {key n : Nat} (ht : t = { s with cpu := p })
    (h : s.cpu.f &&& 0x0F#8 = 0#8 → p.f &&& 0x0F#8 = 0#8) (h1 : 1 ≤ n) (h6 : n ≤ 6) :
    Answer s [] (.next (t.chargeTaken key n)) := by
  subst ht
  refine .inl ⟨_, rfl, Effect.cpu s p _ h, fun hc => ?_⟩
  show 1 ≤ Params.takenCost s.params key n ∧ Params.takenCost s.params key n ≤ 6
  rw [takenCost_plain hc]; exact ⟨h1, h6⟩

theorem answer_read {a : Word} {k : Byte → Out} (h : ∀ v, memRead s a = .ok v → Answer s l (k v)) :
    Answer s l (onOk (memRead s a) k) := by
  cases hv : memRead s a with
  | ok v => exact h v hv
  | error r => exact .inr (refused_of_read hv)

theorem answer_write {a : Word} {v : Byte} {k : State → Out}
    (h : ∀ u, memWrite s a v = .ok u → Untouched s u → Answer u l (k u)) : Answer s (a :: l) (onOk (memWrite s a v) k) := by
  rcases memWrite_cases s a v with ⟨_, u, hu, hs⟩ | ⟨_, hu, _⟩
  · rw [hu]
    rcases h u hu hs with ⟨t, h1, h2, h3⟩ | hr
    · exact .inl ⟨t, h1, .store hu h2, fun hc => h3 (hs.params ▸ hc)⟩
    · exact .inr (refused_before_write hu hr)
  · exact .inr (by rw [hu]; exact refused_of_write hu)

theorem answer_move {p : Cpu} {o : Out} (h : s.cpu.f &&& 0x0F#8 = 0#8 → p.f &&& 0x0F#8 = 0#8)
    (r : Answer { s with cpu := p } l o) : Answer s l o := by
  rcases r with ⟨t, h1, h2, h3⟩ | hr
  · exact .inl ⟨t, h1, .move p h h2, h3⟩
  · exact .inr hr

theorem answer_source {src : Source8} {k : Byte → Out} (h : ∀ v, readSource s src = .ok v → Answer s l (k v)) :
    Answer s l (onOk (readSource s src) k) := by
  cases src with
  | reg r => exact h _ rfl
  | mem => exact answer_read h
  | imm d => exact h _ rfl

theorem push16_eq (s : State) (v : Word) :
    push16 s v =
      match memWrite s (s.cpu.sp - 1#16) (hiByte v) with
      | .ok u =>
        match memWrite u (s.cpu.sp - 2#16) (loByte v) with
        | .ok t => .ok (t.setSp (s.cpu.sp - 2#16))
        | .error r => .error r
      | .error r => .error r := by
  have hsub : s.cpu.sp - 1#16 - 1#16 = s.cpu.sp - 2#16 := by
    rw [BitVec.sub_sub]; rfl
  have hset : ∀ w : State, ∀ x, w.setSp x = { w with cpu := { w.cpu with sp := x }, cost := w.cost, cycles := w.cycles } :=
    fun _ _ => rfl
  unfold push16 push8
  cases h1 : memWrite s (s.cpu.sp - 1#16) (hiByte v) with
  | error r =>
    rcases memWrite_cases s (s.cpu.sp - 1#16) (hiByte v) with ⟨_, u, hu, _⟩ | ⟨hw, hu, _⟩
    · rw [hu] at h1; cases h1
    · rw [hu] at h1; cases h1
      rcases memWrite_cases (s.setSp (s.cpu.sp - 1#16)) (s.cpu.sp - 1#16) (hiByte v) with ⟨hw', _⟩ | ⟨_, hu', _⟩
      · exact absurd (hw.symm.trans hw') (by decide)
      · rw [hu']
  | ok u =>
    have hc := (memWrite_untouched h1).cpu
    rw [hset, memWrite_withCpu h1 { s.cpu with sp := s.cpu.sp - 1#16 } s.cost s.cycles]
    simp only
    rw [hsub]
    cases h2 : memWrite u (s.cpu.sp - 2#16) (loByte v) with
    | error r =>
      rcases memWrite_cases u (s.cpu.sp - 2#16) (loByte v) with ⟨_, t, ht, _⟩ | ⟨hw, ht, _⟩
      · rw [ht] at h2; cases h2
      · rw [ht] at h2; cases h2
        rw [hset]
        rcases memWrite_cases { u with cpu := { s.cpu with sp := s.cpu.sp - 2#16 }, cost := s.cost, cycles := s.cycles }
          (s.cpu.sp - 2#16) (loByte v) with ⟨hw', _⟩ | ⟨_, hu', _⟩
        · exact absurd (hw.symm.trans hw') (by decide)
        · exact hu'
    | ok t =>
      have hu := memWrite_untouched h2
      have hs := memWrite_untouched h1
      simp only
      rw [hset, hset, memWrite_withCpu h2 { s.cpu with sp := s.cpu.sp - 2#16 } s.cost s.cycles]
      simp only [Except.ok.injEq]
      have e1 : t.cost = s.cost := hu.cost.trans hs.cost
      have e2 : t.cycles = s.cycles := hu.cycles.trans hs.cycles
      have e3 : t.cpu = s.cpu := hu.cpu.trans hs.cpu
      rw [e1, e2, e3]

/-- A push whose two writes are answered. -/
theorem push16_of_canPush (h : s.canPush = true) (v : Word) :
    ∃ t, Pushed s v t ∧ t.cpu = s.cpu ∧ push16 s v = .ok (t.setSp (s.cpu.sp - 2#16)) := by
  simp only [State.canPush, Bool.and_eq_true] at h
  obtain ⟨u, hu, hU⟩ := memWrite_of_writable h.1 (hiByte v)
  have hsub : s.cpu.sp - 2#16 = s.cpu.sp - 1#16 - 1#16 := by rw [BitVec.sub_sub]; rfl
  have hw : u.writable (s.cpu.sp - 2#16) = true := by rw [writable_after hu (.inr hsub)]; exact h.2
  obtain ⟨t, ht, hT⟩ := memWrite_of_writable hw (loByte v)
  refine ⟨t, ⟨u, hu, ht⟩, hT.cpu.trans hU.cpu, ?_⟩
  rw [push16_eq, hu]; simp only [ht]

theorem answer_push {v : Word} {k : State → Out} {l : List Word}
    (h : ∀ t, push16 s v = .ok t → t.cpu = { s.cpu with sp := s.cpu.sp - 2#16 } → t.params = s.params → Answer t l (k t)) :
    Answer s (pushAddrs s ++ l) (onOk (push16 s v) k) := by
  have key : onOk (push16 s v) k =
      onOk (memWrite s (s.cpu.sp - 1#16) (hiByte v)) fun u =>
        onOk (memWrite u (s.cpu.sp - 2#16) (loByte v)) fun t => k (t.setSp (s.cpu.sp - 2#16)) := by
    rw [push16_eq]
    cases h1 : memWrite s (s.cpu.sp - 1#16) (hiByte v) with
    | error r => rfl
    | ok u => cases h2 : memWrite u (s.cpu.sp - 2#16) (loByte v) <;> simp [h2]
  rw [key]
  refine answer_write fun u hu hs => answer_write fun t ht hs' => ?_
  refine answer_move (p := { s.cpu with sp := s.cpu.sp - 2#16 }) (fun hf => ?_) ?_
  · rw [← hs.cpu, ← hs'.cpu]; exact hf
  · have e : { t with cpu := { s.cpu with sp := s.cpu.sp - 2#16 } } = t.setSp (s.cpu.sp - 2#16) := by
      rw [State.setSp, hs'.cpu, hs.cpu]; rfl
    rw [e]
    refine h _ ?_ ?_ ?_
    · rw [push16_eq, hu]; simp only [ht]
    · rw [← e]
    · rw [← e]; exact hs'.params.trans hs.params

theorem pop16_eq (s : State) :
    pop16 s =
      match memRead s s.cpu.sp with
      | .ok lo =>
        match memRead s (s.cpu.sp + 1#16) with
        | .ok hi => .ok (word hi lo, s.setSp (s.cpu.sp + 2#16))
        | .error r => .error r
      | .error r => .error r := by
  have hadd : s.cpu.sp + 1#16 + 1#16 = s.cpu.sp + 2#16 := by rw [BitVec.add_assoc]; rfl
  have hr : memRead (s.setSp (s.cpu.sp + 1#16)) (s.cpu.sp + 1#16) = memRead s (s.cpu.sp + 1#16) :=
    memRead_withCpu s _ s.cost s.cycles _
  unfold pop16 pop8
  cases h1 : memRead s s.cpu.sp with
  | error r => rfl
  | ok lo =>
    have hsp : (s.setSp (s.cpu.sp + 1#16)).cpu.sp = s.cpu.sp + 1#16 := rfl
    simp only [hsp, hr, hadd]
    cases h2 : memRead s (s.cpu.sp + 1#16) <;> rfl

/-- A pop whose two reads are answered. -/
theorem pop16_of_canPop (h : s.canPop = true) : ∃ v, Popped s v ∧ pop16 s = .ok (v, s.setSp (s.cpu.sp + 2#16)) := by
  simp only [State.canPop, Bool.and_eq_true] at h
  obtain ⟨lo, h1⟩ := memRead_of_readable h.1
  obtain ⟨hi, h2⟩ := memRead_of_readable h.2
  exact ⟨word hi lo, ⟨lo, hi, h1, h2, rfl⟩, by rw [pop16_eq, h1]; simp only [h2]⟩

theorem answer_pop {k : Word × State → Out} (h : ∀ v, Answer s l (k (v, s.setSp (s.cpu.sp + 2#16)))) :
    Answer s l (onOk (pop16 s) k) := by
  have key : onOk (pop16 s) k =
      onOk (memRead s s.cpu.sp) fun lo => onOk (memRead s (s.cpu.sp + 1#16)) fun hi =>
        k (word hi lo, s.setSp (s.cpu.sp + 2#16)) := by
    rw [pop16_eq]
    cases h1 : memRead s s.cpu.sp with
    | error r => rfl
    | ok lo => cases h2 : memRead s (s.cpu.sp + 1#16) <;> simp
  rw [key]
  exact answer_read fun lo _ => answer_read fun hi _ => h _

theorem answer_pushEnd {v : Word} {k : State → Out}
    (h : ∀ t, push16 s v = .ok t → t.cpu = { s.cpu with sp := s.cpu.sp - 2#16 } → t.params = s.params → Answer t [] (k t)) :
    Answer s (pushAddrs s) (onOk (push16 s v) k) := by
  have := answer_push (l := []) h
  rwa [List.append_nil] at this

theorem low_and (b : Byte) : b &&& 0xF0#8 &&& 0x0F#8 = 0#8 := by
  rw [BitVec.and_assoc]; simp

theorem low_setStackPair (q : Cpu) (p : StackPair) (v : Word) (h : q.f &&& 0x0F#8 = 0#8) :
    (q.setStackPair p v).f &&& 0x0F#8 = 0#8 := by
  cases p <;> first | exact h | exact low_and _

end Compose

section Shapes

variable (s : State) (key : Nat)

theorem answer_loadReg (n : Nat) (y : Reg) (src : Source8) (h1 : 1 ≤ n) (h6 : n ≤ 6) :
    Answer s [] (loadReg key n y src s) :=
  answer_source fun v _ => answer_done (p := s.cpu.setReg y v) rfl (by simp) h1 h6

theorem answer_loadA (n : Nat) (a : Word) (h1 : 1 ≤ n) (h6 : n ≤ 6) : Answer s [] (loadA key n a s) :=
  answer_read fun v _ => answer_done (p := s.cpu.setReg .a v) rfl (by simp) h1 h6

theorem answer_storeByte (n : Nat) (a : Word) (v : Byte) (h1 : 1 ≤ n) (h6 : n ≤ 6) : Answer s [a] (storeByte key n a v s) :=
  answer_write fun u _ _ => answer_done (p := u.cpu) rfl (by simp) h1 h6

theorem answer_loadAStepHL (x : Word) : Answer s [] (loadAStepHL key x s) :=
  answer_read fun v _ => answer_done (p := (s.cpu.setReg .a v).setPair .hl (s.cpu.pair .hl + x)) rfl (by simp) (by decide)
    (by decide)

theorem answer_storeAStepHL (x : Word) : Answer s [s.cpu.pair .hl] (storeAStepHL key x s) :=
  answer_write fun u _ _ => answer_done (p := u.cpu.setPair .hl (s.cpu.pair .hl + x)) rfl (by simp) (by decide) (by decide)

theorem answer_loadPair (p : Pair) (v : Word) : Answer s [] (loadPair key p v s) :=
  answer_done (p := s.cpu.setPair p v) rfl (by simp) (by decide) (by decide)

theorem answer_storeSP (a : Word) : Answer s [a, a + 1#16] (storeSP key a s) := by
  have e : storeSP key a s = onOk (memWrite s a (loByte s.cpu.sp)) fun u =>
      onOk (memWrite u (a + 1#16) (hiByte s.cpu.sp)) fun t => done t key 5 := by
    unfold storeSP memWrite16
    cases h1 : memWrite s a (loByte s.cpu.sp) <;> rfl
  rw [e]
  exact answer_write fun u _ _ => answer_write fun t _ _ => answer_done (p := t.cpu) rfl (by simp) (by decide) (by decide)

theorem answer_loadSP : Answer s [] (loadSP key s) :=
  answer_done (p := { s.cpu with sp := s.cpu.pair .hl }) rfl (by simp) (by decide) (by decide)

theorem answer_pushPair (p : StackPair) : Answer s (pushAddrs s) (pushPair key p s) :=
  answer_pushEnd fun t _ _ _ => answer_done (p := t.cpu) rfl (by simp) (by decide) (by decide)

theorem answer_popPair (p : StackPair) : Answer s [] (popPair key p s) :=
  answer_pop fun v => answer_done (p := Cpu.setStackPair { s.cpu with sp := s.cpu.sp + 2#16 } p v) rfl
    (fun h => low_setStackPair _ p v h) (by decide) (by decide)

theorem answer_aluA (n : Nat) (op : AluOp) (src : Source8) (h1 : 1 ≤ n) (h6 : n ≤ 6) : Answer s [] (aluA key n op src s) :=
  answer_source fun v _ => answer_done
    (p := (s.cpu.setReg .a (alu8 op s.cpu.a v s.cpu.flags.c).1).setFlags (alu8 op s.cpu.a v s.cpu.flags.c).2) rfl
    (by simp) h1 h6

theorem answer_incReg (y : Reg) : Answer s [] (incReg key y s) :=
  answer_done (p := (s.cpu.setReg y (inc8 (s.cpu.reg y) s.cpu.flags).1).setFlags (inc8 (s.cpu.reg y) s.cpu.flags).2) rfl
    (by simp) (by decide) (by decide)

theorem answer_decReg (y : Reg) : Answer s [] (decReg key y s) :=
  answer_done (p := (s.cpu.setReg y (dec8 (s.cpu.reg y) s.cpu.flags).1).setFlags (dec8 (s.cpu.reg y) s.cpu.flags).2) rfl
    (by simp) (by decide) (by decide)

theorem answer_incMem : Answer s [s.cpu.pair .hl] (incMem key s) :=
  answer_read fun v _ => answer_write fun u _ _ =>
    answer_done (p := u.cpu.setFlags (inc8 v s.cpu.flags).2) rfl (by simp) (by decide) (by decide)

theorem answer_decMem : Answer s [s.cpu.pair .hl] (decMem key s) :=
  answer_read fun v _ => answer_write fun u _ _ =>
    answer_done (p := u.cpu.setFlags (dec8 v s.cpu.flags).2) rfl (by simp) (by decide) (by decide)

theorem answer_decimalAdjust : Answer s [] (decimalAdjust key s) :=
  answer_done (p := (s.cpu.setReg .a (daa8 s.cpu.a s.cpu.flags).1).setFlags (daa8 s.cpu.a s.cpu.flags).2) rfl
    (by simp) (by decide) (by decide)

theorem answer_complementA : Answer s [] (complementA key s) :=
  answer_done (p := (s.cpu.setReg .a (~~~s.cpu.a)).setFlags { s.cpu.flags with n := true, h := true }) rfl (by simp)
    (by decide) (by decide)

theorem answer_setCarry : Answer s [] (setCarry key s) :=
  answer_done (p := s.cpu.setFlags { z := s.cpu.flags.z, n := false, h := false, c := true }) rfl (by simp) (by decide)
    (by decide)

theorem answer_complementCarry : Answer s [] (complementCarry key s) :=
  answer_done (p := s.cpu.setFlags { z := s.cpu.flags.z, n := false, h := false, c := !s.cpu.flags.c }) rfl (by simp)
    (by decide) (by decide)

theorem answer_addToHL (p : Pair) : Answer s [] (addToHL key p s) :=
  answer_done (p := (s.cpu.setPair .hl (addHL (s.cpu.pair .hl) (s.cpu.pair p) s.cpu.flags).1).setFlags
    (addHL (s.cpu.pair .hl) (s.cpu.pair p) s.cpu.flags).2) rfl (by simp) (by decide) (by decide)

theorem answer_incPair (p : Pair) : Answer s [] (incPair key p s) :=
  answer_done (p := s.cpu.setPair p (s.cpu.pair p + 1#16)) rfl (by simp) (by decide) (by decide)

theorem answer_decPair (p : Pair) : Answer s [] (decPair key p s) :=
  answer_done (p := s.cpu.setPair p (s.cpu.pair p - 1#16)) rfl (by simp) (by decide) (by decide)

theorem answer_addToSP (e : Byte) : Answer s [] (addToSP key e s) :=
  answer_done (p := Cpu.setFlags { s.cpu with sp := (addOffset s.cpu.sp e).1 } (addOffset s.cpu.sp e).2) rfl (by simp)
    (by decide) (by decide)

theorem answer_loadHLFromSP (e : Byte) : Answer s [] (loadHLFromSP key e s) :=
  answer_done (p := (s.cpu.setPair .hl (addOffset s.cpu.sp e).1).setFlags (addOffset s.cpu.sp e).2) rfl (by simp)
    (by decide) (by decide)

theorem answer_rotateA (op : RotOp) : Answer s [] (rotateA key op s) :=
  answer_done (p := (s.cpu.setReg .a (rotate8 op s.cpu.a s.cpu.flags.c).1).setFlags
    { z := false, n := false, h := false, c := (rotate8 op s.cpu.a s.cpu.flags.c).2 }) rfl (by simp) (by decide) (by decide)

/-- The address a secondary-page instruction that writes its operand back stores to. -/
def writtenBack (s : State) : Operand8 → List Word
  | .reg _ => []
  | .mem => [s.cpu.pair .hl]

theorem answer_operand {l : List Word} {o : Operand8} {k : Byte → Out} (h : ∀ v, Answer s l (k v)) :
    Answer s l (onOk (readOperand s o) k) := by
  cases o with
  | reg r => exact h _
  | mem => exact answer_read fun v _ => h v

theorem modifyCost_bounds (o : Operand8) : 1 ≤ modifyCost o ∧ modifyCost o ≤ 6 := by cases o <;> simp [modifyCost]
theorem testCost_bounds (o : Operand8) : 1 ≤ testCost o ∧ testCost o ≤ 6 := by cases o <;> simp [testCost]

theorem answer_writeBack {o : Operand8} {v : Byte} {g : Cpu → Cpu} {n : Nat}
    (hg : ∀ p : Cpu, p.f &&& 0x0F#8 = 0#8 → (g p).f &&& 0x0F#8 = 0#8) (h1 : 1 ≤ n) (h6 : n ≤ 6) :
    Answer s (writtenBack s o) (onOk (writeOperand s o v) fun t => done (t.withCpu (g t.cpu)) key n) := by
  cases o with
  | reg r => exact answer_done (p := g (s.cpu.setReg r v)) rfl (fun h => hg _ (by simpa using h)) h1 h6
  | mem => exact answer_write fun u _ _ => answer_done (p := g u.cpu) rfl (hg _) h1 h6

theorem answer_rotate (op : RotOp) (o : Operand8) : Answer s (writtenBack s o) (rotate key op o s) :=
  answer_operand s fun v => answer_writeBack s key
    (g := fun p => p.setFlags { z := (rotate8 op v s.cpu.flags.c).1 == 0#8, n := false, h := false,
                                c := (rotate8 op v s.cpu.flags.c).2 })
    (fun _ _ => by simp) (modifyCost_bounds o).1 (modifyCost_bounds o).2

theorem answer_bitBit (n : BitNo) (o : Operand8) : Answer s [] (bitBit key n o s) :=
  answer_operand s fun v => answer_done
    (p := s.cpu.setFlags { z := !v.getLsbD n.toNat, n := false, h := true, c := s.cpu.flags.c }) rfl (by simp)
    (testCost_bounds o).1 (testCost_bounds o).2

theorem answer_resBit (n : BitNo) (o : Operand8) : Answer s (writtenBack s o) (resBit key n o s) :=
  answer_operand s fun _ => answer_writeBack s key (g := id) (fun _ h => h) (modifyCost_bounds o).1 (modifyCost_bounds o).2

theorem answer_setBitOn (n : BitNo) (o : Operand8) : Answer s (writtenBack s o) (setBitOn key n o s) :=
  answer_operand s fun _ => answer_writeBack s key (g := id) (fun _ h => h) (modifyCost_bounds o).1 (modifyCost_bounds o).2

theorem answer_prefixed (op2 : Byte) : Answer s (storedAddrs (.prefixCB op2) s) (prefixed op2 s) := by
  have hb : ∀ z, writtenBack s (operandAt z) = if z = 6 then [s.cpu.pair .hl] else [] := by
    intro z
    match z with
    | 0 | 1 | 2 | 3 | 4 | 5 | 6 => rfl
    | n + 7 => rw [if_neg (by omega)]; rfl
  show Answer s (if op2.toNat % 8 = 6 ∧ op2.toNat / 64 ≠ 1 then [s.cpu.pair .hl] else []) (secondary op2 s)
  simp only [secondary]
  have hq : op2.toNat / 64 < 4 := by have := op2.isLt; omega
  generalize op2.toNat / 64 = q at *
  match q, hq with
  | 0, _ =>
    have := answer_rotate s (0xCB00 + op2.toNat) (rotAt (op2.toNat / 8 % 8)) (operandAt (op2.toNat % 8))
    rw [hb] at this; simpa using this
  | 1, _ =>
    have := answer_bitBit s (0xCB00 + op2.toNat) (bitNoAt (op2.toNat / 8 % 8)) (operandAt (op2.toNat % 8))
    simpa using this
  | 2, _ =>
    have := answer_resBit s (0xCB00 + op2.toNat) (bitNoAt (op2.toNat / 8 % 8)) (operandAt (op2.toNat % 8))
    rw [hb] at this; simpa using this
  | 3, _ =>
    have := answer_setBitOn s (0xCB00 + op2.toNat) (bitNoAt (op2.toNat / 8 % 8)) (operandAt (op2.toNat % 8))
    rw [hb] at this; simpa using this

theorem answer_jump (a : Word) : Answer s [] (jump key a s) :=
  answer_done (p := { s.cpu with pc := a }) rfl (by simp) (by decide) (by decide)

theorem answer_jumpIf (cc : Cond) (a : Word) : Answer s [] (jumpIf key cc a s) := by
  unfold jumpIf; split
  · exact answer_taken (p := { s.cpu with pc := a }) rfl (by simp) (by decide) (by decide)
  · exact answer_done (p := s.cpu) rfl (by simp) (by decide) (by decide)

theorem answer_jumpHL : Answer s [] (jumpHL key s) :=
  answer_done (p := { s.cpu with pc := s.cpu.pair .hl }) rfl (by simp) (by decide) (by decide)

theorem answer_jumpRelative (e : Byte) : Answer s [] (jumpRelative key e s) :=
  answer_done (p := { s.cpu with pc := relativeTarget s e }) rfl (by simp) (by decide) (by decide)

theorem answer_jumpRelativeIf (cc : Cond) (e : Byte) : Answer s [] (jumpRelativeIf key cc e s) := by
  unfold jumpRelativeIf; split
  · exact answer_taken (p := { s.cpu with pc := relativeTarget s e }) rfl (by simp) (by decide) (by decide)
  · exact answer_done (p := s.cpu) rfl (by simp) (by decide) (by decide)

theorem answer_callTo {a : Word} {k : State → Out} (h : ∀ t : State, Answer t [] (k t)) :
    Answer s (pushAddrs s) (onOk (callTo a s) k) := by
  have e : onOk (callTo a s) k = onOk (push16 s s.cpu.pc) fun t => k (t.setPc a) := by
    unfold callTo; cases push16 s s.cpu.pc <;> rfl
  rw [e]
  exact answer_pushEnd fun t _ _ _ => answer_move (p := { t.cpu with pc := a }) (fun h => h) (h _)

theorem answer_self (t : State) {n : Nat} (h1 : 1 ≤ n) (h6 : n ≤ 6) : Answer t [] (done t key n) :=
  answer_done (p := t.cpu) rfl (fun h => h) h1 h6

theorem answer_selfTaken (t : State) {n : Nat} (h1 : 1 ≤ n) (h6 : n ≤ 6) : Answer t [] (.next (t.chargeTaken key n)) :=
  answer_taken (p := t.cpu) rfl (fun h => h) h1 h6

theorem answer_call (a : Word) : Answer s (pushAddrs s) (call key a s) :=
  answer_callTo s fun t => answer_self key t (by decide) (by decide)

theorem answer_callIf (cc : Cond) (a : Word) :
    Answer s (if s.cpu.holds cc then pushAddrs s else []) (callIf key cc a s) := by
  unfold callIf; split
  · exact answer_callTo s fun t => answer_selfTaken key t (by decide) (by decide)
  · exact answer_self key s (by decide) (by decide)

theorem answer_restart (y : BitNo) : Answer s (pushAddrs s) (restart key y s) :=
  answer_callTo s fun t => answer_self key t (by decide) (by decide)

theorem answer_returnTo {k : State → Out}
    (h : ∀ p : Cpu, (s.cpu.f &&& 0x0F#8 = 0#8 → p.f &&& 0x0F#8 = 0#8) → Answer s [] (k { s with cpu := p })) :
    Answer s [] (onOk (returnTo s) k) := by
  have e : onOk (returnTo s) k = onOk (pop16 s) fun r => k (r.2.setPc r.1) := by
    unfold returnTo; cases pop16 s <;> rfl
  rw [e]
  exact answer_pop fun v => h { s.cpu with sp := s.cpu.sp + 2#16, pc := v } (fun h => h)

theorem answer_ret : Answer s [] (ret key s) :=
  answer_returnTo s fun p hp => answer_done (p := p) rfl hp (by decide) (by decide)

theorem answer_retIf (cc : Cond) : Answer s [] (retIf key cc s) := by
  unfold retIf; split
  · exact answer_returnTo s fun p hp => answer_taken (p := p) rfl hp (by decide) (by decide)
  · exact answer_self key s (by decide) (by decide)

theorem answer_reti : Answer s [] (reti key s) := by
  have e : reti key s = onOk (pop16 s) fun r => done ((r.2.setPc r.1).setIme true) key 4 := by
    unfold reti returnFromInterrupt; cases pop16 s <;> rfl
  rw [e]
  exact answer_pop fun v => answer_done (p := { s.cpu with sp := s.cpu.sp + 2#16, pc := v, ime := true }) rfl (fun h => h)
    (by decide) (by decide)

theorem answer_noOperation : Answer s [] (noOperation key s) := answer_self key s (by decide) (by decide)

theorem answer_halt : Answer s [] (halt key s) :=
  answer_done (p := { s.cpu with mode := .halted }) rfl (fun h => h) (by decide) (by decide)

theorem answer_setIme (v : Bool) : Answer s [] (setIme key v s) :=
  answer_done (p := { s.cpu with ime := v }) rfl (fun h => h) (by decide) (by decide)

theorem answer_undefinedOp : Answer s [] (undefinedOp key s) := answer_self key s (by decide) (by decide)

theorem answer_stopAsNop : Answer s [] (stopAsNop key s) := answer_self key s (by decide) (by decide)

end Shapes

/-- Every instruction's outcome: it stores to `storedAddrs i s` and nowhere else, changes CPU registers and the reported cost
besides, costs 1 to 6 by the default tables, and is refused only for the two reasons of `Refused`. -/
theorem exec_answer (i : Instr) (s : State) : Answer s (storedAddrs i s) (exec i s) :=
  match i with
  | .ldBC_d16 v => answer_loadPair s 0x01 .bc v
  | .ldB_d8 d => answer_loadReg s 0x06 2 .b (.imm d) (by decide) (by decide)
  | .ldMa16_SP addr => answer_storeSP s 0x08 addr
  | .ldC_d8 d => answer_loadReg s 0x0E 2 .c (.imm d) (by decide) (by decide)
  | .ldDE_d16 v => answer_loadPair s 0x11 .de v
  | .ldD_d8 d => answer_loadReg s 0x16 2 .d (.imm d) (by decide) (by decide)
  | .jr_e8 e => answer_jumpRelative s 0x18 e
  | .ldE_d8 d => answer_loadReg s 0x1E 2 .e (.imm d) (by decide) (by decide)
  | .jrNZ_e8 e => answer_jumpRelativeIf s 0x20 .nz e
  | .ldHL_d16 v => answer_loadPair s 0x21 .hl v
  | .ldH_d8 d => answer_loadReg s 0x26 2 .h (.imm d) (by decide) (by decide)
  | .jrZ_e8 e => answer_jumpRelativeIf s 0x28 .z e
  | .ldL_d8 d => answer_loadReg s 0x2E 2 .l (.imm d) (by decide) (by decide)
  | .jrNC_e8 e => answer_jumpRelativeIf s 0x30 .nc e
  | .ldSP_d16 v => answer_loadPair s 0x31 .sp v
  | .ldMHL_d8 d => answer_storeByte s 0x36 3 (s.cpu.pair .hl) d (by decide) (by decide)
  | .jrC_e8 e => answer_jumpRelativeIf s 0x38 .c e
  | .ldA_d8 d => answer_loadReg s 0x3E 2 .a (.imm d) (by decide) (by decide)
  | .jpNZ_a16 addr => answer_jumpIf s 0xC2 .nz addr
  | .jp_a16 addr => answer_jump s 0xC3 addr
  | .callNZ_a16 addr => answer_callIf s 0xC4 .nz addr
  | .addA_d8 d => answer_aluA s 0xC6 2 .add (.imm d) (by decide) (by decide)
  | .jpZ_a16 addr => answer_jumpIf s 0xCA .z addr
  | .prefixCB op2 => answer_prefixed s op2
  | .callZ_a16 addr => answer_callIf s 0xCC .z addr
  | .call_a16 addr => answer_call s 0xCD addr
  | .adcA_d8 d => answer_aluA s 0xCE 2 .adc (.imm d) (by decide) (by decide)
  | .jpNC_a16 addr => answer_jumpIf s 0xD2 .nc addr
  | .callNC_a16 addr => answer_callIf s 0xD4 .nc addr
  | .subA_d8 d => answer_aluA s 0xD6 2 .sub (.imm d) (by decide) (by decide)
  | .jpC_a16 addr => answer_jumpIf s 0xDA .c addr
  | .callC_a16 addr => answer_callIf s 0xDC .c addr
  | .sbcA_d8 d => answer_aluA s 0xDE 2 .sbc (.imm d) (by decide) (by decide)
  | .ldhMa8_A o => answer_storeByte s 0xE0 3 (highPage o) s.cpu.a (by decide) (by decide)
  | .andA_d8 d => answer_aluA s 0xE6 2 .and (.imm d) (by decide) (by decide)
  | .addSP_e8 e => answer_addToSP s 0xE8 e
  | .ldMa16_A addr => answer_storeByte s 0xEA 4 addr s.cpu.a (by decide) (by decide)
  | .xorA_d8 d => answer_aluA s 0xEE 2 .xor (.imm d) (by decide) (by decide)
  | .ldhA_Ma8 o => answer_loadA s 0xF0 3 (highPage o) (by decide) (by decide)
  | .orA_d8 d => answer_aluA s 0xF6 2 .or (.imm d) (by decide) (by decide)
  | .ldHL_SPe8 e => answer_loadHLFromSP s 0xF8 e
  | .ldA_Ma16 addr => answer_loadA s 0xFA 4 addr (by decide) (by decide)
  | .cpA_d8 d => answer_aluA s 0xFE 2 .cp (.imm d) (by decide) (by decide)
  | .nop => answer_noOperation s 0x00
  | .ldMBC_A => answer_storeByte s 0x02 2 (s.cpu.pair .bc) s.cpu.a (by decide) (by decide)
  | .incBC => answer_incPair s 0x03 .bc
  | .incB => answer_incReg s 0x04 .b
  | .decB => answer_decReg s 0x05 .b
  | .rlca => answer_rotateA s 0x07 .rlc
  | .addHL_BC => answer_addToHL s 0x09 .bc
  | .ldA_MBC => answer_loadA s 0x0A 2 (s.cpu.pair .bc) (by decide) (by decide)
  | .decBC => answer_decPair s 0x0B .bc
  | .incC => answer_incReg s 0x0C .c
  | .decC => answer_decReg s 0x0D .c
  | .rrca => answer_rotateA s 0x0F .rrc
  | .stop => answer_stopAsNop s 0x10
  | .ldMDE_A => answer_storeByte s 0x12 2 (s.cpu.pair .de) s.cpu.a (by decide) (by decide)
  | .incDE => answer_incPair s 0x13 .de
  | .incD => answer_incReg s 0x14 .d
  | .decD => answer_decReg s 0x15 .d
  | .rla => answer_rotateA s 0x17 .rl
  | .addHL_DE => answer_addToHL s 0x19 .de
  | .ldA_MDE => answer_loadA s 0x1A 2 (s.cpu.pair .de) (by decide) (by decide)
  | .decDE => answer_decPair s 0x1B .de
  | .incE => answer_incReg s 0x1C .e
  | .decE => answer_decReg s 0x1D .e
  | .rra => answer_rotateA s 0x1F .rr
  | .ldMHLInc_A => answer_storeAStepHL s 0x22 1
  | .incHL => answer_incPair s 0x23 .hl
  | .incH => answer_incReg s 0x24 .h
  | .decH => answer_decReg s 0x25 .h
  | .daa => answer_decimalAdjust s 0x27
  | .addHL_HL => answer_addToHL s 0x29 .hl
  | .ldA_MHLInc => answer_loadAStepHL s 0x2A 1
  | .decHL => answer_decPair s 0x2B .hl
  | .incL => answer_incReg s 0x2C .l
  | .decL => answer_decReg s 0x2D .l
  | .cpl => answer_complementA s 0x2F
  | .ldMHLDec_A => answer_storeAStepHL s 0x32 (-1)
  | .incSP => answer_incPair s 0x33 .sp
  | .incMHL => answer_incMem s 0x34
  | .decMHL => answer_decMem s 0x35
  | .scf => answer_setCarry s 0x37
  | .addHL_SP => answer_addToHL s 0x39 .sp
  | .ldA_MHLDec => answer_loadAStepHL s 0x3A (-1)
  | .decSP => answer_decPair s 0x3B .sp
  | .incA => answer_incReg s 0x3C .a
  | .decA => answer_decReg s 0x3D .a
  | .ccf => answer_complementCarry s 0x3F
  | .ldB_B => answer_loadReg s 0x40 1 .b (.reg .b) (by decide) (by decide)
  | .ldB_C => answer_loadReg s 0x41 1 .b (.reg .c) (by decide) (by decide)
  | .ldB_D => answer_loadReg s 0x42 1 .b (.reg .d) (by decide) (by decide)
  | .ldB_E => answer_loadReg s 0x43 1 .b (.reg .e) (by decide) (by decide)
  | .ldB_H => answer_loadReg s 0x44 1 .b (.reg .h) (by decide) (by decide)
  | .ldB_L => answer_loadReg s 0x45 1 .b (.reg .l) (by decide) (by decide)
  | .ldB_MHL => answer_loadReg s 0x46 2 .b .mem (by decide) (by decide)
  | .ldB_A => answer_loadReg s 0x47 1 .b (.reg .a) (by decide) (by decide)
  | .ldC_B => answer_loadReg s 0x48 1 .c (.reg .b) (by decide) (by decide)
  | .ldC_C => answer_loadReg s 0x49 1 .c (.reg .c) (by decide) (by decide)
  | .ldC_D => answer_loadReg s 0x4A 1 .c (.reg .d) (by decide) (by decide)
  | .ldC_E => answer_loadReg s 0x4B 1 .c (.reg .e) (by decide) (by decide)
  | .ldC_H => answer_loadReg s 0x4C 1 .c (.reg .h) (by decide) (by decide)
  | .ldC_L => answer_loadReg s 0x4D 1 .c (.reg .l) (by decide) (by decide)
  | .ldC_MHL => answer_loadReg s 0x4E 2 .c .mem (by decide) (by decide)
  | .ldC_A => answer_loadReg s 0x4F 1 .c (.reg .a) (by decide) (by decide)
  | .ldD_B => answer_loadReg s 0x50 1 .d (.reg .b) (by decide) (by decide)
  | .ldD_C => answer_loadReg s 0x51 1 .d (.reg .c) (by decide) (by decide)
  | .ldD_D => answer_loadReg s 0x52 1 .d (.reg .d) (by decide) (by decide)
  | .ldD_E => answer_loadReg s 0x53 1 .d (.reg .e) (by decide) (by decide)
  | .ldD_H => answer_loadReg s 0x54 1 .d (.reg .h) (by decide) (by decide)
  | .ldD_L => answer_loadReg s 0x55 1 .d (.reg .l) (by decide) (by decide)
  | .ldD_MHL => answer_loadReg s 0x56 2 .d .mem (by decide) (by decide)
  | .ldD_A => answer_loadReg s 0x57 1 .d (.reg .a) (by decide) (by decide)
  | .ldE_B => answer_loadReg s 0x58 1 .e (.reg .b) (by decide) (by decide)
  | .ldE_C => answer_loadReg s 0x59 1 .e (.reg .c) (by decide) (by decide)
  | .ldE_D => answer_loadReg s 0x5A 1 .e (.reg .d) (by decide) (by decide)
  | .ldE_E => answer_loadReg s 0x5B 1 .e (.reg .e) (by decide) (by decide)
  | .ldE_H => answer_loadReg s 0x5C 1 .e (.reg .h) (by decide) (by decide)
  | .ldE_L => answer_loadReg s 0x5D 1 .e (.reg .l) (by decide) (by decide)
  | .ldE_MHL => answer_loadReg s 0x5E 2 .e .mem (by decide) (by decide)
  | .ldE_A => answer_loadReg s 0x5F 1 .e (.reg .a) (by decide) (by decide)
  | .ldH_B => answer_loadReg s 0x60 1 .h (.reg .b) (by decide) (by decide)
  | .ldH_C => answer_loadReg s 0x61 1 .h (.reg .c) (by decide) (by decide)
  | .ldH_D => answer_loadReg s 0x62 1 .h (.reg .d) (by decide) (by decide)
  | .ldH_E => answer_loadReg s 0x63 1 .h (.reg .e) (by decide) (by decide)
  | .ldH_H => answer_loadReg s 0x64 1 .h (.reg .h) (by decide) (by decide)
  | .ldH_L => answer_loadReg s 0x65 1 .h (.reg .l) (by decide) (by decide)
  | .ldH_MHL => answer_loadReg s 0x66 2 .h .mem (by decide) (by decide)
  | .ldH_A => answer_loadReg s 0x67 1 .h (.reg .a) (by decide) (by decide)
  | .ldL_B => answer_loadReg s 0x68 1 .l (.reg .b) (by decide) (by decide)
  | .ldL_C => answer_loadReg s 0x69 1 .l (.reg .c) (by decide) (by decide)
  | .ldL_D => answer_loadReg s 0x6A 1 .l (.reg .d) (by decide) (by decide)
  | .ldL_E => answer_loadReg s 0x6B 1 .l (.reg .e) (by decide) (by decide)
  | .ldL_H => answer_loadReg s 0x6C 1 .l (.reg .h) (by decide) (by decide)
  | .ldL_L => answer_loadReg s 0x6D 1 .l (.reg .l) (by decide) (by decide)
  | .ldL_MHL => answer_loadReg s 0x6E 2 .l .mem (by decide) (by decide)
  | .ldL_A => answer_loadReg s 0x6F 1 .l (.reg .a) (by decide) (by decide)
  | .ldMHL_B => answer_storeByte s 0x70 2 (s.cpu.pair .hl) (s.cpu.reg .b) (by decide) (by decide)
  | .ldMHL_C => answer_storeByte s 0x71 2 (s.cpu.pair .hl) (s.cpu.reg .c) (by decide) (by decide)
  | .ldMHL_D => answer_storeByte s 0x72 2 (s.cpu.pair .hl) (s.cpu.reg .d) (by decide) (by decide)
  | .ldMHL_E => answer_storeByte s 0x73 2 (s.cpu.pair .hl) (s.cpu.reg .e) (by decide) (by decide)
  | .ldMHL_H => answer_storeByte s 0x74 2 (s.cpu.pair .hl) (s.cpu.reg .h) (by decide) (by decide)
  | .ldMHL_L => answer_storeByte s 0x75 2 (s.cpu.pair .hl) (s.cpu.reg .l) (by decide) (by decide)
  | .halt => answer_halt s 0x76
  | .ldMHL_A => answer_storeByte s 0x77 2 (s.cpu.pair .hl) (s.cpu.reg .a) (by decide) (by decide)
  | .ldA_B => answer_loadReg s 0x78 1 .a (.reg .b) (by decide) (by decide)
  | .ldA_C => answer_loadReg s 0x79 1 .a (.reg .c) (by decide) (by decide)
  | .ldA_D => answer_loadReg s 0x7A 1 .a (.reg .d) (by decide) (by decide)
  | .ldA_E => answer_loadReg s 0x7B 1 .a (.reg .e) (by decide) (by decide)
  | .ldA_H => answer_loadReg s 0x7C 1 .a (.reg .h) (by decide) (by decide)
  | .ldA_L => answer_loadReg s 0x7D 1 .a (.reg .l) (by decide) (by decide)
  | .ldA_MHL => answer_loadReg s 0x7E 2 .a .mem (by decide) (by decide)
  | .ldA_A => answer_loadReg s 0x7F 1 .a (.reg .a) (by decide) (by decide)
  | .addA_B => answer_aluA s 0x80 1 .add (.reg .b) (by decide) (by decide)
  | .addA_C => answer_aluA s 0x81 1 .add (.reg .c) (by decide) (by decide)
  | .addA_D => answer_aluA s 0x82 1 .add (.reg .d) (by decide) (by decide)
  | .addA_E => answer_aluA s 0x83 1 .add (.reg .e) (by decide) (by decide)
  | .addA_H => answer_aluA s 0x84 1 .add (.reg .h) (by decide) (by decide)
  | .addA_L => answer_aluA s 0x85 1 .add (.reg .l) (by decide) (by decide)
  | .addA_MHL => answer_aluA s 0x86 2 .add .mem (by decide) (by decide)
  | .addA_A => answer_aluA s 0x87 1 .add (.reg .a) (by decide) (by decide)
  | .adcA_B => answer_aluA s 0x88 1 .adc (.reg .b) (by decide) (by decide)
  | .adcA_C => answer_aluA s 0x89 1 .adc (.reg .c) (by decide) (by decide)
  | .adcA_D => answer_aluA s 0x8A 1 .adc (.reg .d) (by decide) (by decide)
  | .adcA_E => answer_aluA s 0x8B 1 .adc (.reg .e) (by decide) (by decide)
  | .adcA_H => answer_aluA s 0x8C 1 .adc (.reg .h) (by decide) (by decide)
  | .adcA_L => answer_aluA s 0x8D 1 .adc (.reg .l) (by decide) (by decide)
  | .adcA_MHL => answer_aluA s 0x8E 2 .adc .mem (by decide) (by decide)
  | .adcA_A => answer_aluA s 0x8F 1 .adc (.reg .a) (by decide) (by decide)
  | .subA_B => answer_aluA s 0x90 1 .sub (.reg .b) (by decide) (by decide)
  | .subA_C => answer_aluA s 0x91 1 .sub (.reg .c) (by decide) (by decide)
  | .subA_D => answer_aluA s 0x92 1 .sub (.reg .d) (by decide) (by decide)
  | .subA_E => answer_aluA s 0x93 1 .sub (.reg .e) (by decide) (by decide)
  | .subA_H => answer_aluA s 0x94 1 .sub (.reg .h) (by decide) (by decide)
  | .subA_L => answer_aluA s 0x95 1 .sub (.reg .l) (by decide) (by decide)
  | .subA_MHL => answer_aluA s 0x96 2 .sub .mem (by decide) (by decide)
  | .subA_A => answer_aluA s 0x97 1 .sub (.reg .a) (by decide) (by decide)
  | .sbcA_B => answer_aluA s 0x98 1 .sbc (.reg .b) (by decide) (by decide)
  | .sbcA_C => answer_aluA s 0x99 1 .sbc (.reg .c) (by decide) (by decide)
  | .sbcA_D => answer_aluA s 0x9A 1 .sbc (.reg .d) (by decide) (by decide)
  | .sbcA_E => answer_aluA s 0x9B 1 .sbc (.reg .e) (by decide) (by decide)
  | .sbcA_H => answer_aluA s 0x9C 1 .sbc (.reg .h) (by decide) (by decide)
  | .sbcA_L => answer_aluA s 0x9D 1 .sbc (.reg .l) (by decide) (by decide)
  | .sbcA_MHL => answer_aluA s 0x9E 2 .sbc .mem (by decide) (by decide)
  | .sbcA_A => answer_aluA s 0x9F 1 .sbc (.reg .a) (by decide) (by decide)
  | .andA_B => answer_aluA s 0xA0 1 .and (.reg .b) (by decide) (by decide)
  | .andA_C => answer_aluA s 0xA1 1 .and (.reg .c) (by decide) (by decide)
  | .andA_D => answer_aluA s 0xA2 1 .and (.reg .d) (by decide) (by decide)
  | .andA_E => answer_aluA s 0xA3 1 .and (.reg .e) (by decide) (by decide)
  | .andA_H => answer_aluA s 0xA4 1 .and (.reg .h) (by decide) (by decide)
  | .andA_L => answer_aluA s 0xA5 1 .and (.reg .l) (by decide) (by decide)
  | .andA_MHL => answer_aluA s 0xA6 2 .and .mem (by decide) (by decide)
  | .andA_A => answer_aluA s 0xA7 1 .and (.reg .a) (by decide) (by decide)
  | .xorA_B => answer_aluA s 0xA8 1 .xor (.reg .b) (by decide) (by decide)
  | .xorA_C => answer_aluA s 0xA9 1 .xor (.reg .c) (by decide) (by decide)
  | .xorA_D => answer_aluA s 0xAA 1 .xor (.reg .d) (by decide) (by decide)
  | .xorA_E => answer_aluA s 0xAB 1 .xor (.reg .e) (by decide) (by decide)
  | .xorA_H => answer_aluA s 0xAC 1 .xor (.reg .h) (by decide) (by decide)
  | .xorA_L => answer_aluA s 0xAD 1 .xor (.reg .l) (by decide) (by decide)
  | .xorA_MHL => answer_aluA s 0xAE 2 .xor .mem (by decide) (by decide)
  | .xorA_A => answer_aluA s 0xAF 1 .xor (.reg .a) (by decide) (by decide)
  | .orA_B => answer_aluA s 0xB0 1 .or (.reg .b) (by decide) (by decide)
  | .orA_C => answer_aluA s 0xB1 1 .or (.reg .c) (by decide) (by decide)
  | .orA_D => answer_aluA s 0xB2 1 .or (.reg .d) (by decide) (by decide)
  | .orA_E => answer_aluA s 0xB3 1 .or (.reg .e) (by decide) (by decide)
  | .orA_H => answer_aluA s 0xB4 1 .or (.reg .h) (by decide) (by decide)
  | .orA_L => answer_aluA s 0xB5 1 .or (.reg .l) (by decide) (by decide)
  | .orA_MHL => answer_aluA s 0xB6 2 .or .mem (by decide) (by decide)
  | .orA_A => answer_aluA s 0xB7 1 .or (.reg .a) (by decide) (by decide)
  | .cpA_B => answer_aluA s 0xB8 1 .cp (.reg .b) (by decide) (by decide)
  | .cpA_C => answer_aluA s 0xB9 1 .cp (.reg .c) (by decide) (by decide)
  | .cpA_D => answer_aluA s 0xBA 1 .cp (.reg .d) (by decide) (by decide)
  | .cpA_E => answer_aluA s 0xBB 1 .cp (.reg .e) (by decide) (by decide)
  | .cpA_H => answer_aluA s 0xBC 1 .cp (.reg .h) (by decide) (by decide)
  | .cpA_L => answer_aluA s 0xBD 1 .cp (.reg .l) (by decide) (by decide)
  | .cpA_MHL => answer_aluA s 0xBE 2 .cp .mem (by decide) (by decide)
  | .cpA_A => answer_aluA s 0xBF 1 .cp (.reg .a) (by decide) (by decide)
  | .retNZ => answer_retIf s 0xC0 .nz
  | .popBC => answer_popPair s 0xC1 .bc
  | .pushBC => answer_pushPair s 0xC5 .bc
  | .rst00 => answer_restart s 0xC7 .n0
  | .retZ => answer_retIf s 0xC8 .z
  | .ret => answer_ret s 0xC9
  | .rst08 => answer_restart s 0xCF .n1
  | .retNC => answer_retIf s 0xD0 .nc
  | .popDE => answer_popPair s 0xD1 .de
  | .undefinedD3 => answer_undefinedOp s 0xD3
  | .pushDE => answer_pushPair s 0xD5 .de
  | .rst10 => answer_restart s 0xD7 .n2
  | .retC => answer_retIf s 0xD8 .c
  | .reti => answer_reti s 0xD9
  | .undefinedDB => answer_undefinedOp s 0xDB
  | .undefinedDD => answer_undefinedOp s 0xDD
  | .rst18 => answer_restart s 0xDF .n3
  | .popHL => answer_popPair s 0xE1 .hl
  | .ldMC_A => answer_storeByte s 0xE2 2 (highPage s.cpu.c) s.cpu.a (by decide) (by decide)
  | .undefinedE3 => answer_undefinedOp s 0xE3
  | .undefinedE4 => answer_undefinedOp s 0xE4
  | .pushHL => answer_pushPair s 0xE5 .hl
  | .rst20 => answer_restart s 0xE7 .n4
  | .jpHL => answer_jumpHL s 0xE9
  | .undefinedEB => answer_undefinedOp s 0xEB
  | .undefinedEC => answer_undefinedOp s 0xEC
  | .undefinedED => answer_undefinedOp s 0xED
  | .rst28 => answer_restart s 0xEF .n5
  | .popAF => answer_popPair s 0xF1 .af
  | .ldA_MC => answer_loadA s 0xF2 2 (highPage s.cpu.c) (by decide) (by decide)
  | .di => answer_setIme s 0xF3 false
  | .undefinedF4 => answer_undefinedOp s 0xF4
  | .pushAF => answer_pushPair s 0xF5 .af
  | .rst30 => answer_restart s 0xF7 .n6
  | .ldSP_HL => answer_loadSP s 0xF9
  | .ei => answer_setIme s 0xFB true
  | .undefinedFC => answer_undefinedOp s 0xFC
  | .undefinedFD => answer_undefinedOp s 0xFD
  | .rst38 => answer_restart s 0xFF .n7
  | .rlcB => answer_rotate s 0xCB00 .rlc (.reg .b)
  | .rlcC => answer_rotate s 0xCB01 .rlc (.reg .c)
  | .rlcD => answer_rotate s 0xCB02 .rlc (.reg .d)
  | .rlcE => answer_rotate s 0xCB03 .rlc (.reg .e)
  | .rlcH => answer_rotate s 0xCB04 .rlc (.reg .h)
  | .rlcL => answer_rotate s 0xCB05 .rlc (.reg .l)
  | .rlcMHL => answer_rotate s 0xCB06 .rlc .mem
  | .rlcA => answer_rotate s 0xCB07 .rlc (.reg .a)
  | .rrcB => answer_rotate s 0xCB08 .rrc (.reg .b)
  | .rrcC => answer_rotate s 0xCB09 .rrc (.reg .c)
  | .rrcD => answer_rotate s 0xCB0A .rrc (.reg .d)
  | .rrcE => answer_rotate s 0xCB0B .rrc (.reg .e)
  | .rrcH => answer_rotate s 0xCB0C .rrc (.reg .h)
  | .rrcL => answer_rotate s 0xCB0D .rrc (.reg .l)
  | .rrcMHL => answer_rotate s 0xCB0E .rrc .mem
  | .rrcA => answer_rotate s 0xCB0F .rrc (.reg .a)
  | .rlB => answer_rotate s 0xCB10 .rl (.reg .b)
  | .rlC => answer_rotate s 0xCB11 .rl (.reg .c)
  | .rlD => answer_rotate s 0xCB12 .rl (.reg .d)
  | .rlE => answer_rotate s 0xCB13 .rl (.reg .e)
  | .rlH => answer_rotate s 0xCB14 .rl (.reg .h)
  | .rlL => answer_rotate s 0xCB15 .rl (.reg .l)
  | .rlMHL => answer_rotate s 0xCB16 .rl .mem
  | .rlA => answer_rotate s 0xCB17 .rl (.reg .a)
  | .rrB => answer_rotate s 0xCB18 .rr (.reg .b)
  | .rrC => answer_rotate s 0xCB19 .rr (.reg .c)
  | .rrD => answer_rotate s 0xCB1A .rr (.reg .d)
  | .rrE => answer_rotate s 0xCB1B .rr (.reg .e)
  | .rrH => answer_rotate s 0xCB1C .rr (.reg .h)
  | .rrL => answer_rotate s 0xCB1D .rr (.reg .l)
  | .rrMHL => answer_rotate s 0xCB1E .rr .mem
  | .rrA => answer_rotate s 0xCB1F .rr (.reg .a)
  | .slaB => answer_rotate s 0xCB20 .sla (.reg .b)
  | .slaC => answer_rotate s 0xCB21 .sla (.reg .c)
  | .slaD => answer_rotate s 0xCB22 .sla (.reg .d)
  | .slaE => answer_rotate s 0xCB23 .sla (.reg .e)
  | .slaH => answer_rotate s 0xCB24 .sla (.reg .h)
  | .slaL => answer_rotate s 0xCB25 .sla (.reg .l)
  | .slaMHL => answer_rotate s 0xCB26 .sla .mem
  | .slaA => answer_rotate s 0xCB27 .sla (.reg .a)
  | .sraB => answer_rotate s 0xCB28 .sra (.reg .b)
  | .sraC => answer_rotate s 0xCB29 .sra (.reg .c)
  | .sraD => answer_rotate s 0xCB2A .sra (.reg .d)
  | .sraE => answer_rotate s 0xCB2B .sra (.reg .e)
  | .sraH => answer_rotate s 0xCB2C .sra (.reg .h)
  | .sraL => answer_rotate s 0xCB2D .sra (.reg .l)
  | .sraMHL => answer_rotate s 0xCB2E .sra .mem
  | .sraA => answer_rotate s 0xCB2F .sra (.reg .a)
  | .swapB => answer_rotate s 0xCB30 .swap (.reg .b)
  | .swapC => answer_rotate s 0xCB31 .swap (.reg .c)
  | .swapD => answer_rotate s 0xCB32 .swap (.reg .d)
  | .swapE => answer_rotate s 0xCB33 .swap (.reg .e)
  | .swapH => answer_rotate s 0xCB34 .swap (.reg .h)
  | .swapL => answer_rotate s 0xCB35 .swap (.reg .l)
  | .swapMHL => answer_rotate s 0xCB36 .swap .mem
  | .swapA => answer_rotate s 0xCB37 .swap (.reg .a)
  | .srlB => answer_rotate s 0xCB38 .srl (.reg .b)
  | .srlC => answer_rotate s 0xCB39 .srl (.reg .c)
  | .srlD => answer_rotate s 0xCB3A .srl (.reg .d)
  | .srlE => answer_rotate s 0xCB3B .srl (.reg .e)
  | .srlH => answer_rotate s 0xCB3C .srl (.reg .h)
  | .srlL => answer_rotate s 0xCB3D .srl (.reg .l)
  | .srlMHL => answer_rotate s 0xCB3E .srl .mem
  | .srlA => answer_rotate s 0xCB3F .srl (.reg .a)
  | .bit0_B => answer_bitBit s 0xCB40 .n0 (.reg .b)
  | .bit0_C => answer_bitBit s 0xCB41 .n0 (.reg .c)
  | .bit0_D => answer_bitBit s 0xCB42 .n0 (.reg .d)
  | .bit0_E => answer_bitBit s 0xCB43 .n0 (.reg .e)
  | .bit0_H => answer_bitBit s 0xCB44 .n0 (.reg .h)
  | .bit0_L => answer_bitBit s 0xCB45 .n0 (.reg .l)
  | .bit0_MHL => answer_bitBit s 0xCB46 .n0 .mem
  | .bit0_A => answer_bitBit s 0xCB47 .n0 (.reg .a)
  | .bit1_B => answer_bitBit s 0xCB48 .n1 (.reg .b)
  | .bit1_C => answer_bitBit s 0xCB49 .n1 (.reg .c)
  | .bit1_D => answer_bitBit s 0xCB4A .n1 (.reg .d)
  | .bit1_E => answer_bitBit s 0xCB4B .n1 (.reg .e)
  | .bit1_H => answer_bitBit s 0xCB4C .n1 (.reg .h)
  | .bit1_L => answer_bitBit s 0xCB4D .n1 (.reg .l)
  | .bit1_MHL => answer_bitBit s 0xCB4E .n1 .mem
  | .bit1_A => answer_bitBit s 0xCB4F .n1 (.reg .a)
  | .bit2_B => answer_bitBit s 0xCB50 .n2 (.reg .b)
  | .bit2_C => answer_bitBit s 0xCB51 .n2 (.reg .c)
  | .bit2_D => answer_bitBit s 0xCB52 .n2 (.reg .d)
  | .bit2_E => answer_bitBit s 0xCB53 .n2 (.reg .e)
  | .bit2_H => answer_bitBit s 0xCB54 .n2 (.reg .h)
  | .bit2_L => answer_bitBit s 0xCB55 .n2 (.reg .l)
  | .bit2_MHL => answer_bitBit s 0xCB56 .n2 .mem
  | .bit2_A => answer_bitBit s 0xCB57 .n2 (.reg .a)
  | .bit3_B => answer_bitBit s 0xCB58 .n3 (.reg .b)
  | .bit3_C => answer_bitBit s 0xCB59 .n3 (.reg .c)
  | .bit3_D => answer_bitBit s 0xCB5A .n3 (.reg .d)
  | .bit3_E => answer_bitBit s 0xCB5B .n3 (.reg .e)
  | .bit3_H => answer_bitBit s 0xCB5C .n3 (.reg .h)
  | .bit3_L => answer_bitBit s 0xCB5D .n3 (.reg .l)
  | .bit3_MHL => answer_bitBit s 0xCB5E .n3 .mem
  | .bit3_A => answer_bitBit s 0xCB5F .n3 (.reg .a)
  | .bit4_B => answer_bitBit s 0xCB60 .n4 (.reg .b)
  | .bit4_C => answer_bitBit s 0xCB61 .n4 (.reg .c)
  | .bit4_D => answer_bitBit s 0xCB62 .n4 (.reg .d)
  | .bit4_E => answer_bitBit s 0xCB63 .n4 (.reg .e)
  | .bit4_H => answer_bitBit s 0xCB64 .n4 (.reg .h)
  | .bit4_L => answer_bitBit s 0xCB65 .n4 (.reg .l)
  | .bit4_MHL => answer_bitBit s 0xCB66 .n4 .mem
  | .bit4_A => answer_bitBit s 0xCB67 .n4 (.reg .a)
  | .bit5_B => answer_bitBit s 0xCB68 .n5 (.reg .b)
  | .bit5_C => answer_bitBit s 0xCB69 .n5 (.reg .c)
  | .bit5_D => answer_bitBit s 0xCB6A .n5 (.reg .d)
  | .bit5_E => answer_bitBit s 0xCB6B .n5 (.reg .e)
  | .bit5_H => answer_bitBit s 0xCB6C .n5 (.reg .h)
  | .bit5_L => answer_bitBit s 0xCB6D .n5 (.reg .l)
  | .bit5_MHL => answer_bitBit s 0xCB6E .n5 .mem
  | .bit5_A => answer_bitBit s 0xCB6F .n5 (.reg .a)
  | .bit6_B => answer_bitBit s 0xCB70 .n6 (.reg .b)
  | .bit6_C => answer_bitBit s 0xCB71 .n6 (.reg .c)
  | .bit6_D => answer_bitBit s 0xCB72 .n6 (.reg .d)
  | .bit6_E => answer_bitBit s 0xCB73 .n6 (.reg .e)
  | .bit6_H => answer_bitBit s 0xCB74 .n6 (.reg .h)
  | .bit6_L => answer_bitBit s 0xCB75 .n6 (.reg .l)
  | .bit6_MHL => answer_bitBit s 0xCB76 .n6 .mem
  | .bit6_A => answer_bitBit s 0xCB77 .n6 (.reg .a)
  | .bit7_B => answer_bitBit s 0xCB78 .n7 (.reg .b)
  | .bit7_C => answer_bitBit s 0xCB79 .n7 (.reg .c)
  | .bit7_D => answer_bitBit s 0xCB7A .n7 (.reg .d)
  | .bit7_E => answer_bitBit s 0xCB7B .n7 (.reg .e)
  | .bit7_H => answer_bitBit s 0xCB7C .n7 (.reg .h)
  | .bit7_L => answer_bitBit s 0xCB7D .n7 (.reg .l)
  | .bit7_MHL => answer_bitBit s 0xCB7E .n7 .mem
  | .bit7_A => answer_bitBit s 0xCB7F .n7 (.reg .a)
  | .res0_B => answer_resBit s 0xCB80 .n0 (.reg .b)
  | .res0_C => answer_resBit s 0xCB81 .n0 (.reg .c)
  | .res0_D => answer_resBit s 0xCB82 .n0 (.reg .d)
  | .res0_E => answer_resBit s 0xCB83 .n0 (.reg .e)
  | .res0_H => answer_resBit s 0xCB84 .n0 (.reg .h)
  | .res0_L => answer_resBit s 0xCB85 .n0 (.reg .l)
  | .res0_MHL => answer_resBit s 0xCB86 .n0 .mem
  | .res0_A => answer_resBit s 0xCB87 .n0 (.reg .a)
  | .res1_B => answer_resBit s 0xCB88 .n1 (.reg .b)
  | .res1_C => answer_resBit s 0xCB89 .n1 (.reg .c)
  | .res1_D => answer_resBit s 0xCB8A .n1 (.reg .d)
  | .res1_E => answer_resBit s 0xCB8B .n1 (.reg .e)
  | .res1_H => answer_resBit s 0xCB8C .n1 (.reg .h)
  | .res1_L => answer_resBit s 0xCB8D .n1 (.reg .l)
  | .res1_MHL => answer_resBit s 0xCB8E .n1 .mem
  | .res1_A => answer_resBit s 0xCB8F .n1 (.reg .a)
  | .res2_B => answer_resBit s 0xCB90 .n2 (.reg .b)
  | .res2_C => answer_resBit s 0xCB91 .n2 (.reg .c)
  | .res2_D => answer_resBit s 0xCB92 .n2 (.reg .d)
  | .res2_E => answer_resBit s 0xCB93 .n2 (.reg .e)
  | .res2_H => answer_resBit s 0xCB94 .n2 (.reg .h)
  | .res2_L => answer_resBit s 0xCB95 .n2 (.reg .l)
  | .res2_MHL => answer_resBit s 0xCB96 .n2 .mem
  | .res2_A => answer_resBit s 0xCB97 .n2 (.reg .a)
  | .res3_B => answer_resBit s 0xCB98 .n3 (.reg .b)
  | .res3_C => answer_resBit s 0xCB99 .n3 (.reg .c)
  | .res3_D => answer_resBit s 0xCB9A .n3 (.reg .d)
  | .res3_E => answer_resBit s 0xCB9B .n3 (.reg .e)
  | .res3_H => answer_resBit s 0xCB9C .n3 (.reg .h)
  | .res3_L => answer_resBit s 0xCB9D .n3 (.reg .l)
  | .res3_MHL => answer_resBit s 0xCB9E .n3 .mem
  | .res3_A => answer_resBit s 0xCB9F .n3 (.reg .a)
  | .res4_B => answer_resBit s 0xCBA0 .n4 (.reg .b)
  | .res4_C => answer_resBit s 0xCBA1 .n4 (.reg .c)
  | .res4_D => answer_resBit s 0xCBA2 .n4 (.reg .d)
  | .res4_E => answer_resBit s 0xCBA3 .n4 (.reg .e)
  | .res4_H => answer_resBit s 0xCBA4 .n4 (.reg .h)
  | .res4_L => answer_resBit s 0xCBA5 .n4 (.reg .l)
  | .res4_MHL => answer_resBit s 0xCBA6 .n4 .mem
  | .res4_A => answer_resBit s 0xCBA7 .n4 (.reg .a)
  | .res5_B => answer_resBit s 0xCBA8 .n5 (.reg .b)
  | .res5_C => answer_resBit s 0xCBA9 .n5 (.reg .c)
  | .res5_D => answer_resBit s 0xCBAA .n5 (.reg .d)
  | .res5_E => answer_resBit s 0xCBAB .n5 (.reg .e)
  | .res5_H => answer_resBit s 0xCBAC .n5 (.reg .h)
  | .res5_L => answer_resBit s 0xCBAD .n5 (.reg .l)
  | .res5_MHL => answer_resBit s 0xCBAE .n5 .mem
  | .res5_A => answer_resBit s 0xCBAF .n5 (.reg .a)
  | .res6_B => answer_resBit s 0xCBB0 .n6 (.reg .b)
  | .res6_C => answer_resBit s 0xCBB1 .n6 (.reg .c)
  | .res6_D => answer_resBit s 0xCBB2 .n6 (.reg .d)
  | .res6_E => answer_resBit s 0xCBB3 .n6 (.reg .e)
  | .res6_H => answer_resBit s 0xCBB4 .n6 (.reg .h)
  | .res6_L => answer_resBit s 0xCBB5 .n6 (.reg .l)
  | .res6_MHL => answer_resBit s 0xCBB6 .n6 .mem
  | .res6_A => answer_resBit s 0xCBB7 .n6 (.reg .a)
  | .res7_B => answer_resBit s 0xCBB8 .n7 (.reg .b)
  | .res7_C => answer_resBit s 0xCBB9 .n7 (.reg .c)
  | .res7_D => answer_resBit s 0xCBBA .n7 (.reg .d)
  | .res7_E => answer_resBit s 0xCBBB .n7 (.reg .e)
  | .res7_H => answer_resBit s 0xCBBC .n7 (.reg .h)
  | .res7_L => answer_resBit s 0xCBBD .n7 (.reg .l)
  | .res7_MHL => answer_resBit s 0xCBBE .n7 .mem
  | .res7_A => answer_resBit s 0xCBBF .n7 (.reg .a)
  | .set0_B => answer_setBitOn s 0xCBC0 .n0 (.reg .b)
  | .set0_C => answer_setBitOn s 0xCBC1 .n0 (.reg .c)
  | .set0_D => answer_setBitOn s 0xCBC2 .n0 (.reg .d)
  | .set0_E => answer_setBitOn s 0xCBC3 .n0 (.reg .e)
  | .set0_H => answer_setBitOn s 0xCBC4 .n0 (.reg .h)
  | .set0_L => answer_setBitOn s 0xCBC5 .n0 (.reg .l)
  | .set0_MHL => answer_setBitOn s 0xCBC6 .n0 .mem
  | .set0_A => answer_setBitOn s 0xCBC7 .n0 (.reg .a)
  | .set1_B => answer_setBitOn s 0xCBC8 .n1 (.reg .b)
  | .set1_C => answer_setBitOn s 0xCBC9 .n1 (.reg .c)
  | .set1_D => answer_setBitOn s 0xCBCA .n1 (.reg .d)
  | .set1_E => answer_setBitOn s 0xCBCB .n1 (.reg .e)
  | .set1_H => answer_setBitOn s 0xCBCC .n1 (.reg .h)
  | .set1_L => answer_setBitOn s 0xCBCD .n1 (.reg .l)
  | .set1_MHL => answer_setBitOn s 0xCBCE .n1 .mem
  | .set1_A => answer_setBitOn s 0xCBCF .n1 (.reg .a)
  | .set2_B => answer_setBitOn s 0xCBD0 .n2 (.reg .b)
  | .set2_C => answer_setBitOn s 0xCBD1 .n2 (.reg .c)
  | .set2_D => answer_setBitOn s 0xCBD2 .n2 (.reg .d)
  | .set2_E => answer_setBitOn s 0xCBD3 .n2 (.reg .e)
  | .set2_H => answer_setBitOn s 0xCBD4 .n2 (.reg .h)
  | .set2_L => answer_setBitOn s 0xCBD5 .n2 (.reg .l)
  | .set2_MHL => answer_setBitOn s 0xCBD6 .n2 .mem
  | .set2_A => answer_setBitOn s 0xCBD7 .n2 (.reg .a)
  | .set3_B => answer_setBitOn s 0xCBD8 .n3 (.reg .b)
  | .set3_C => answer_setBitOn s 0xCBD9 .n3 (.reg .c)
  | .set3_D => answer_setBitOn s 0xCBDA .n3 (.reg .d)
  | .set3_E => answer_setBitOn s 0xCBDB .n3 (.reg .e)
  | .set3_H => answer_setBitOn s 0xCBDC .n3 (.reg .h)
  | .set3_L => answer_setBitOn s 0xCBDD .n3 (.reg .l)
  | .set3_MHL => answer_setBitOn s 0xCBDE .n3 .mem
  | .set3_A => answer_setBitOn s 0xCBDF .n3 (.reg .a)
  | .set4_B => answer_setBitOn s 0xCBE0 .n4 (.reg .b)
  | .set4_C => answer_setBitOn s 0xCBE1 .n4 (.reg .c)
  | .set4_D => answer_setBitOn s 0xCBE2 .n4 (.reg .d)
  | .set4_E => answer_setBitOn s 0xCBE3 .n4 (.reg .e)
  | .set4_H => answer_setBitOn s 0xCBE4 .n4 (.reg .h)
  | .set4_L => answer_setBitOn s 0xCBE5 .n4 (.reg .l)
  | .set4_MHL => answer_setBitOn s 0xCBE6 .n4 .mem
  | .set4_A => answer_setBitOn s 0xCBE7 .n4 (.reg .a)
  | .set5_B => answer_setBitOn s 0xCBE8 .n5 (.reg .b)
  | .set5_C => answer_setBitOn s 0xCBE9 .n5 (.reg .c)
  | .set5_D => answer_setBitOn s 0xCBEA .n5 (.reg .d)
  | .set5_E => answer_setBitOn s 0xCBEB .n5 (.reg .e)
  | .set5_H => answer_setBitOn s 0xCBEC .n5 (.reg .h)
  | .set5_L => answer_setBitOn s 0xCBED .n5 (.reg .l)
  | .set5_MHL => answer_setBitOn s 0xCBEE .n5 .mem
  | .set5_A => answer_setBitOn s 0xCBEF .n5 (.reg .a)
  | .set6_B => answer_setBitOn s 0xCBF0 .n6 (.reg .b)
  | .set6_C => answer_setBitOn s 0xCBF1 .n6 (.reg .c)
  | .set6_D => answer_setBitOn s 0xCBF2 .n6 (.reg .d)
  | .set6_E => answer_setBitOn s 0xCBF3 .n6 (.reg .e)
  | .set6_H => answer_setBitOn s 0xCBF4 .n6 (.reg .h)
  | .set6_L => answer_setBitOn s 0xCBF5 .n6 (.reg .l)
  | .set6_MHL => answer_setBitOn s 0xCBF6 .n6 .mem
  | .set6_A => answer_setBitOn s 0xCBF7 .n6 (.reg .a)
  | .set7_B => answer_setBitOn s 0xCBF8 .n7 (.reg .b)
  | .set7_C => answer_setBitOn s 0xCBF9 .n7 (.reg .c)
  | .set7_D => answer_setBitOn s 0xCBFA .n7 (.reg .d)
  | .set7_E => answer_setBitOn s 0xCBFB .n7 (.reg .e)
  | .set7_H => answer_setBitOn s 0xCBFC .n7 (.reg .h)
  | .set7_L => answer_setBitOn s 0xCBFD .n7 (.reg .l)
  | .set7_MHL => answer_setBitOn s 0xCBFE .n7 .mem
  | .set7_A => answer_setBitOn s 0xCBFF .n7 (.reg .a)

/-- An instruction that answers a next state has the effect of `exec_answer`. -/
theorem exec_effect {i : Instr} {s t : State} (h : exec i s = .next t) : Effect s (storedAddrs i s) t := by
  rcases exec_answer i s with ⟨u, h1, h2, _⟩ | ⟨h1, _⟩ | ⟨h1, _⟩
  · rw [h1] at h; cases h; exact h2
  · rw [h1] at h; cases h
  · rw [h1] at h; cases h

theorem exec_cost {i : Instr} {s t : State} (h : exec i s = .next t) (hc : s.params.cost = []) : 1 ≤ t.cost ∧ t.cost ≤ 6 := by
  rcases exec_answer i s with ⟨u, h1, _, h2⟩ | ⟨h1, _⟩ | ⟨h1, _⟩
  · rw [h1] at h; cases h; exact h2 hc
  · rw [h1] at h; cases h
  · rw [h1] at h; cases h

end Sys2Proof.Machine
end

