-- ==== Sys2Proof/Laws/Forms.lean ====
section
/-! SUPPORT. The instructions of one form are the shared operation of that form, its opcode as the key of the cost table: one
lemma per form, for every value of its fields. -/

namespace Sys2Proof.Machine

variable (s : State)

theorem exec_loadReg (y z : Reg) :
    exec (Form.loadReg y z) s = loadReg (opcodeKey (Form.loadReg y z)) 1 y (.reg z) s := by
  cases y <;> cases z <;> rfl

theorem exec_loadImm (y : Reg) (d : Byte) :
    exec (Form.loadImm y d) s = loadReg (opcodeKey (Form.loadImm y d)) 2 y (.imm d) s := by
  cases y <;> rfl

theorem exec_loadAtHL (y : Reg) :
    exec (Form.loadAtHL y) s = loadReg (opcodeKey (Form.loadAtHL y)) 2 y .mem s := by
  cases y <;> rfl

theorem exec_storeAtHL (z : Reg) :
    exec (Form.storeAtHL z) s = storeByte (opcodeKey (Form.storeAtHL z)) 2 (s.cpu.pair .hl) (s.cpu.reg z) s := by
  cases z <;> rfl

theorem exec_loadPair (p : Pair) (v : Word) :
    exec (Form.loadPair p v) s = loadPair (opcodeKey (Form.loadPair p v)) p v s := by
  cases p <;> rfl

theorem exec_push (p : StackPair) : exec (Form.push p) s = pushPair (opcodeKey (Form.push p)) p s := by
  cases p <;> rfl

theorem exec_pop (p : StackPair) : exec (Form.pop p) s = popPair (opcodeKey (Form.pop p)) p s := by
  cases p <;> rfl

theorem exec_alu (op : AluOp) (src : Source8) :
    exec (Form.alu op src) s =
      aluA (opcodeKey (Form.alu op src)) (match src with | .reg _ => 1 | .mem => 2 | .imm _ => 2) op src s := by
  cases op <;> rcases src with r | _ | d <;> first | rfl | (cases r <;> rfl)

theorem exec_incReg (y : Reg) : exec (Form.incReg y) s = incReg (opcodeKey (Form.incReg y)) y s := by
  cases y <;> rfl

theorem exec_decReg (y : Reg) : exec (Form.decReg y) s = decReg (opcodeKey (Form.decReg y)) y s := by
  cases y <;> rfl

theorem exec_addHL (p : Pair) : exec (Form.addHL p) s = addToHL (opcodeKey (Form.addHL p)) p s := by
  cases p <;> rfl

theorem exec_incPair (p : Pair) : exec (Form.incPair p) s = incPair (opcodeKey (Form.incPair p)) p s := by
  cases p <;> rfl

theorem exec_decPair (p : Pair) : exec (Form.decPair p) s = decPair (opcodeKey (Form.decPair p)) p s := by
  cases p <;> rfl

theorem exec_rotate (op : RotOp) (o : Operand8) :
    exec (Form.rotate op o) s = rotate (opcodeKey (Form.rotate op o)) op o s := by
  cases op <;> rcases o with r | _ <;> first | rfl | (cases r <;> rfl)

theorem exec_bit (n : BitNo) (o : Operand8) : exec (Form.bit n o) s = bitBit (opcodeKey (Form.bit n o)) n o s := by
  cases n <;> rcases o with r | _ <;> first | rfl | (cases r <;> rfl)

theorem exec_res (n : BitNo) (o : Operand8) : exec (Form.res n o) s = resBit (opcodeKey (Form.res n o)) n o s := by
  cases n <;> rcases o with r | _ <;> first | rfl | (cases r <;> rfl)

theorem exec_set (n : BitNo) (o : Operand8) : exec (Form.set n o) s = setBitOn (opcodeKey (Form.set n o)) n o s := by
  cases n <;> rcases o with r | _ <;> first | rfl | (cases r <;> rfl)

theorem exec_jumpIf (cc : Cond) (a : Word) :
    exec (Form.jumpIf cc a) s = jumpIf (opcodeKey (Form.jumpIf cc a)) cc a s := by
  cases cc <;> rfl

theorem exec_jumpRelativeIf (cc : Cond) (e : Byte) :
    exec (Form.jumpRelativeIf cc e) s = jumpRelativeIf (opcodeKey (Form.jumpRelativeIf cc e)) cc e s := by
  cases cc <;> rfl

theorem exec_callIf (cc : Cond) (a : Word) :
    exec (Form.callIf cc a) s = callIf (opcodeKey (Form.callIf cc a)) cc a s := by
  cases cc <;> rfl

theorem exec_retIf (cc : Cond) : exec (Form.retIf cc) s = retIf (opcodeKey (Form.retIf cc)) cc s := by
  cases cc <;> rfl

theorem exec_restart (y : BitNo) : exec (Form.restart y) s = restart (opcodeKey (Form.restart y)) y s := by
  cases y <;> rfl

end Sys2Proof.Machine
end

