-- ==== Sys2Proof/Laws/PerInstr.lean ====
section
/-! SUPPORT. One lemma per constructor of `Instr` about its encoding: its first byte alone fixes how many bytes it has (R91,
R104). -/

namespace Sys2Proof.Laws.Encoding

/-- The encoding of `i` is as long as its first byte says. -/
def Statement (i : Instr) : Prop := ∃ b0 r, encode i = b0 :: r ∧ (encode i).length = lengthOf b0

theorem ldBC_d16 (v : Word) : Statement (.ldBC_d16 v) := ⟨_, _, rfl, rfl⟩
theorem ldB_d8 (d : Byte) : Statement (.ldB_d8 d) := ⟨_, _, rfl, rfl⟩
theorem ldMa16_SP (addr : Word) : Statement (.ldMa16_SP addr) := ⟨_, _, rfl, rfl⟩
theorem ldC_d8 (d : Byte) : Statement (.ldC_d8 d) := ⟨_, _, rfl, rfl⟩
theorem ldDE_d16 (v : Word) : Statement (.ldDE_d16 v) := ⟨_, _, rfl, rfl⟩
theorem ldD_d8 (d : Byte) : Statement (.ldD_d8 d) := ⟨_, _, rfl, rfl⟩
theorem jr_e8 (e : Byte) : Statement (.jr_e8 e) := ⟨_, _, rfl, rfl⟩
theorem ldE_d8 (d : Byte) : Statement (.ldE_d8 d) := ⟨_, _, rfl, rfl⟩
theorem jrNZ_e8 (e : Byte) : Statement (.jrNZ_e8 e) := ⟨_, _, rfl, rfl⟩
theorem ldHL_d16 (v : Word) : Statement (.ldHL_d16 v) := ⟨_, _, rfl, rfl⟩
theorem ldH_d8 (d : Byte) : Statement (.ldH_d8 d) := ⟨_, _, rfl, rfl⟩
theorem jrZ_e8 (e : Byte) : Statement (.jrZ_e8 e) := ⟨_, _, rfl, rfl⟩
theorem ldL_d8 (d : Byte) : Statement (.ldL_d8 d) := ⟨_, _, rfl, rfl⟩
theorem jrNC_e8 (e : Byte) : Statement (.jrNC_e8 e) := ⟨_, _, rfl, rfl⟩
theorem ldSP_d16 (v : Word) : Statement (.ldSP_d16 v) := ⟨_, _, rfl, rfl⟩
theorem ldMHL_d8 (d : Byte) : Statement (.ldMHL_d8 d) := ⟨_, _, rfl, rfl⟩
theorem jrC_e8 (e : Byte) : Statement (.jrC_e8 e) := ⟨_, _, rfl, rfl⟩
theorem ldA_d8 (d : Byte) : Statement (.ldA_d8 d) := ⟨_, _, rfl, rfl⟩
theorem jpNZ_a16 (addr : Word) : Statement (.jpNZ_a16 addr) := ⟨_, _, rfl, rfl⟩
theorem jp_a16 (addr : Word) : Statement (.jp_a16 addr) := ⟨_, _, rfl, rfl⟩
theorem callNZ_a16 (addr : Word) : Statement (.callNZ_a16 addr) := ⟨_, _, rfl, rfl⟩
theorem addA_d8 (d : Byte) : Statement (.addA_d8 d) := ⟨_, _, rfl, rfl⟩
theorem jpZ_a16 (addr : Word) : Statement (.jpZ_a16 addr) := ⟨_, _, rfl, rfl⟩
theorem prefixCB (op2 : Byte) : Statement (.prefixCB op2) := ⟨_, _, rfl, rfl⟩
theorem callZ_a16 (addr : Word) : Statement (.callZ_a16 addr) := ⟨_, _, rfl, rfl⟩
theorem call_a16 (addr : Word) : Statement (.call_a16 addr) := ⟨_, _, rfl, rfl⟩
theorem adcA_d8 (d : Byte) : Statement (.adcA_d8 d) := ⟨_, _, rfl, rfl⟩
theorem jpNC_a16 (addr : Word) : Statement (.jpNC_a16 addr) := ⟨_, _, rfl, rfl⟩
theorem callNC_a16 (addr : Word) : Statement (.callNC_a16 addr) := ⟨_, _, rfl, rfl⟩
theorem subA_d8 (d : Byte) : Statement (.subA_d8 d) := ⟨_, _, rfl, rfl⟩
theorem jpC_a16 (addr : Word) : Statement (.jpC_a16 addr) := ⟨_, _, rfl, rfl⟩
theorem callC_a16 (addr : Word) : Statement (.callC_a16 addr) := ⟨_, _, rfl, rfl⟩
theorem sbcA_d8 (d : Byte) : Statement (.sbcA_d8 d) := ⟨_, _, rfl, rfl⟩
theorem ldhMa8_A (o : Byte) : Statement (.ldhMa8_A o) := ⟨_, _, rfl, rfl⟩
theorem andA_d8 (d : Byte) : Statement (.andA_d8 d) := ⟨_, _, rfl, rfl⟩
theorem addSP_e8 (e : Byte) : Statement (.addSP_e8 e) := ⟨_, _, rfl, rfl⟩
theorem ldMa16_A (addr : Word) : Statement (.ldMa16_A addr) := ⟨_, _, rfl, rfl⟩
theorem xorA_d8 (d : Byte) : Statement (.xorA_d8 d) := ⟨_, _, rfl, rfl⟩
theorem ldhA_Ma8 (o : Byte) : Statement (.ldhA_Ma8 o) := ⟨_, _, rfl, rfl⟩
theorem orA_d8 (d : Byte) : Statement (.orA_d8 d) := ⟨_, _, rfl, rfl⟩
theorem ldHL_SPe8 (e : Byte) : Statement (.ldHL_SPe8 e) := ⟨_, _, rfl, rfl⟩
theorem ldA_Ma16 (addr : Word) : Statement (.ldA_Ma16 addr) := ⟨_, _, rfl, rfl⟩
theorem cpA_d8 (d : Byte) : Statement (.cpA_d8 d) := ⟨_, _, rfl, rfl⟩
theorem nop : Statement .nop := ⟨_, _, rfl, rfl⟩
theorem ldMBC_A : Statement .ldMBC_A := ⟨_, _, rfl, rfl⟩
theorem incBC : Statement .incBC := ⟨_, _, rfl, rfl⟩
theorem incB : Statement .incB := ⟨_, _, rfl, rfl⟩
theorem decB : Statement .decB := ⟨_, _, rfl, rfl⟩
theorem rlca : Statement .rlca := ⟨_, _, rfl, rfl⟩
theorem addHL_BC : Statement .addHL_BC := ⟨_, _, rfl, rfl⟩
theorem ldA_MBC : Statement .ldA_MBC := ⟨_, _, rfl, rfl⟩
theorem decBC : Statement .decBC := ⟨_, _, rfl, rfl⟩
theorem incC : Statement .incC := ⟨_, _, rfl, rfl⟩
theorem decC : Statement .decC := ⟨_, _, rfl, rfl⟩
theorem rrca : Statement .rrca := ⟨_, _, rfl, rfl⟩
theorem stop : Statement .stop := ⟨_, _, rfl, rfl⟩
theorem ldMDE_A : Statement .ldMDE_A := ⟨_, _, rfl, rfl⟩
theorem incDE : Statement .incDE := ⟨_, _, rfl, rfl⟩
theorem incD : Statement .incD := ⟨_, _, rfl, rfl⟩
theorem decD : Statement .decD := ⟨_, _, rfl, rfl⟩
theorem rla : Statement .rla := ⟨_, _, rfl, rfl⟩
theorem addHL_DE : Statement .addHL_DE := ⟨_, _, rfl, rfl⟩
theorem ldA_MDE : Statement .ldA_MDE := ⟨_, _, rfl, rfl⟩
theorem decDE : Statement .decDE := ⟨_, _, rfl, rfl⟩
theorem incE : Statement .incE := ⟨_, _, rfl, rfl⟩
theorem decE : Statement .decE := ⟨_, _, rfl, rfl⟩
theorem rra : Statement .rra := ⟨_, _, rfl, rfl⟩
theorem ldMHLInc_A : Statement .ldMHLInc_A := ⟨_, _, rfl, rfl⟩
theorem incHL : Statement .incHL := ⟨_, _, rfl, rfl⟩
theorem incH : Statement .incH := ⟨_, _, rfl, rfl⟩
theorem decH : Statement .decH := ⟨_, _, rfl, rfl⟩
theorem daa : Statement .daa := ⟨_, _, rfl, rfl⟩
theorem addHL_HL : Statement .addHL_HL := ⟨_, _, rfl, rfl⟩
theorem ldA_MHLInc : Statement .ldA_MHLInc := ⟨_, _, rfl, rfl⟩
theorem decHL : Statement .decHL := ⟨_, _, rfl, rfl⟩
theorem incL : Statement .incL := ⟨_, _, rfl, rfl⟩
theorem decL : Statement .decL := ⟨_, _, rfl, rfl⟩
theorem cpl : Statement .cpl := ⟨_, _, rfl, rfl⟩
theorem ldMHLDec_A : Statement .ldMHLDec_A := ⟨_, _, rfl, rfl⟩
theorem incSP : Statement .incSP := ⟨_, _, rfl, rfl⟩
theorem incMHL : Statement .incMHL := ⟨_, _, rfl, rfl⟩
theorem decMHL : Statement .decMHL := ⟨_, _, rfl, rfl⟩
theorem scf : Statement .scf := ⟨_, _, rfl, rfl⟩
theorem addHL_SP : Statement .addHL_SP := ⟨_, _, rfl, rfl⟩
theorem ldA_MHLDec : Statement .ldA_MHLDec := ⟨_, _, rfl, rfl⟩
theorem decSP : Statement .decSP := ⟨_, _, rfl, rfl⟩
theorem incA : Statement .incA := ⟨_, _, rfl, rfl⟩
theorem decA : Statement .decA := ⟨_, _, rfl, rfl⟩
theorem ccf : Statement .ccf := ⟨_, _, rfl, rfl⟩
theorem ldB_B : Statement .ldB_B := ⟨_, _, rfl, rfl⟩
theorem ldB_C : Statement .ldB_C := ⟨_, _, rfl, rfl⟩
theorem ldB_D : Statement .ldB_D := ⟨_, _, rfl, rfl⟩
theorem ldB_E : Statement .ldB_E := ⟨_, _, rfl, rfl⟩
theorem ldB_H : Statement .ldB_H := ⟨_, _, rfl, rfl⟩
theorem ldB_L : Statement .ldB_L := ⟨_, _, rfl, rfl⟩
theorem ldB_MHL : Statement .ldB_MHL := ⟨_, _, rfl, rfl⟩
theorem ldB_A : Statement .ldB_A := ⟨_, _, rfl, rfl⟩
theorem ldC_B : Statement .ldC_B := ⟨_, _, rfl, rfl⟩
theorem ldC_C : Statement .ldC_C := ⟨_, _, rfl, rfl⟩
theorem ldC_D : Statement .ldC_D := ⟨_, _, rfl, rfl⟩
theorem ldC_E : Statement .ldC_E := ⟨_, _, rfl, rfl⟩
theorem ldC_H : Statement .ldC_H := ⟨_, _, rfl, rfl⟩
theorem ldC_L : Statement .ldC_L := ⟨_, _, rfl, rfl⟩
theorem ldC_MHL : Statement .ldC_MHL := ⟨_, _, rfl, rfl⟩
theorem ldC_A : Statement .ldC_A := ⟨_, _, rfl, rfl⟩
theorem ldD_B : Statement .ldD_B := ⟨_, _, rfl, rfl⟩
theorem ldD_C : Statement .ldD_C := ⟨_, _, rfl, rfl⟩
theorem ldD_D : Statement .ldD_D := ⟨_, _, rfl, rfl⟩
theorem ldD_E : Statement .ldD_E := ⟨_, _, rfl, rfl⟩
theorem ldD_H : Statement .ldD_H := ⟨_, _, rfl, rfl⟩
theorem ldD_L : Statement .ldD_L := ⟨_, _, rfl, rfl⟩
theorem ldD_MHL : Statement .ldD_MHL := ⟨_, _, rfl, rfl⟩
theorem ldD_A : Statement .ldD_A := ⟨_, _, rfl, rfl⟩
theorem ldE_B : Statement .ldE_B := ⟨_, _, rfl, rfl⟩
theorem ldE_C : Statement .ldE_C := ⟨_, _, rfl, rfl⟩
theorem ldE_D : Statement .ldE_D := ⟨_, _, rfl, rfl⟩
theorem ldE_E : Statement .ldE_E := ⟨_, _, rfl, rfl⟩
theorem ldE_H : Statement .ldE_H := ⟨_, _, rfl, rfl⟩
theorem ldE_L : Statement .ldE_L := ⟨_, _, rfl, rfl⟩
theorem ldE_MHL : Statement .ldE_MHL := ⟨_, _, rfl, rfl⟩
theorem ldE_A : Statement .ldE_A := ⟨_, _, rfl, rfl⟩
theorem ldH_B : Statement .ldH_B := ⟨_, _, rfl, rfl⟩
theorem ldH_C : Statement .ldH_C := ⟨_, _, rfl, rfl⟩
theorem ldH_D : Statement .ldH_D := ⟨_, _, rfl, rfl⟩
theorem ldH_E : Statement .ldH_E := ⟨_, _, rfl, rfl⟩
theorem ldH_H : Statement .ldH_H := ⟨_, _, rfl, rfl⟩
theorem ldH_L : Statement .ldH_L := ⟨_, _, rfl, rfl⟩
theorem ldH_MHL : Statement .ldH_MHL := ⟨_, _, rfl, rfl⟩
theorem ldH_A : Statement .ldH_A := ⟨_, _, rfl, rfl⟩
theorem ldL_B : Statement .ldL_B := ⟨_, _, rfl, rfl⟩
theorem ldL_C : Statement .ldL_C := ⟨_, _, rfl, rfl⟩
theorem ldL_D : Statement .ldL_D := ⟨_, _, rfl, rfl⟩
theorem ldL_E : Statement .ldL_E := ⟨_, _, rfl, rfl⟩
theorem ldL_H : Statement .ldL_H := ⟨_, _, rfl, rfl⟩
theorem ldL_L : Statement .ldL_L := ⟨_, _, rfl, rfl⟩
theorem ldL_MHL : Statement .ldL_MHL := ⟨_, _, rfl, rfl⟩
theorem ldL_A : Statement .ldL_A := ⟨_, _, rfl, rfl⟩
theorem ldMHL_B : Statement .ldMHL_B := ⟨_, _, rfl, rfl⟩
theorem ldMHL_C : Statement .ldMHL_C := ⟨_, _, rfl, rfl⟩
theorem ldMHL_D : Statement .ldMHL_D := ⟨_, _, rfl, rfl⟩
theorem ldMHL_E : Statement .ldMHL_E := ⟨_, _, rfl, rfl⟩
theorem ldMHL_H : Statement .ldMHL_H := ⟨_, _, rfl, rfl⟩
theorem ldMHL_L : Statement .ldMHL_L := ⟨_, _, rfl, rfl⟩
theorem halt : Statement .halt := ⟨_, _, rfl, rfl⟩
theorem ldMHL_A : Statement .ldMHL_A := ⟨_, _, rfl, rfl⟩
theorem ldA_B : Statement .ldA_B := ⟨_, _, rfl, rfl⟩
theorem ldA_C : Statement .ldA_C := ⟨_, _, rfl, rfl⟩
theorem ldA_D : Statement .ldA_D := ⟨_, _, rfl, rfl⟩
theorem ldA_E : Statement .ldA_E := ⟨_, _, rfl, rfl⟩
theorem ldA_H : Statement .ldA_H := ⟨_, _, rfl, rfl⟩
theorem ldA_L : Statement .ldA_L := ⟨_, _, rfl, rfl⟩
theorem ldA_MHL : Statement .ldA_MHL := ⟨_, _, rfl, rfl⟩
theorem ldA_A : Statement .ldA_A := ⟨_, _, rfl, rfl⟩
theorem addA_B : Statement .addA_B := ⟨_, _, rfl, rfl⟩
theorem addA_C : Statement .addA_C := ⟨_, _, rfl, rfl⟩
theorem addA_D : Statement .addA_D := ⟨_, _, rfl, rfl⟩
theorem addA_E : Statement .addA_E := ⟨_, _, rfl, rfl⟩
theorem addA_H : Statement .addA_H := ⟨_, _, rfl, rfl⟩
theorem addA_L : Statement .addA_L := ⟨_, _, rfl, rfl⟩
theorem addA_MHL : Statement .addA_MHL := ⟨_, _, rfl, rfl⟩
theorem addA_A : Statement .addA_A := ⟨_, _, rfl, rfl⟩
theorem adcA_B : Statement .adcA_B := ⟨_, _, rfl, rfl⟩
theorem adcA_C : Statement .adcA_C := ⟨_, _, rfl, rfl⟩
theorem adcA_D : Statement .adcA_D := ⟨_, _, rfl, rfl⟩
theorem adcA_E : Statement .adcA_E := ⟨_, _, rfl, rfl⟩
theorem adcA_H : Statement .adcA_H := ⟨_, _, rfl, rfl⟩
theorem adcA_L : Statement .adcA_L := ⟨_, _, rfl, rfl⟩
theorem adcA_MHL : Statement .adcA_MHL := ⟨_, _, rfl, rfl⟩
theorem adcA_A : Statement .adcA_A := ⟨_, _, rfl, rfl⟩
theorem subA_B : Statement .subA_B := ⟨_, _, rfl, rfl⟩
theorem subA_C : Statement .subA_C := ⟨_, _, rfl, rfl⟩
theorem subA_D : Statement .subA_D := ⟨_, _, rfl, rfl⟩
theorem subA_E : Statement .subA_E := ⟨_, _, rfl, rfl⟩
theorem subA_H : Statement .subA_H := ⟨_, _, rfl, rfl⟩
theorem subA_L : Statement .subA_L := ⟨_, _, rfl, rfl⟩
theorem subA_MHL : Statement .subA_MHL := ⟨_, _, rfl, rfl⟩
theorem subA_A : Statement .subA_A := ⟨_, _, rfl, rfl⟩
theorem sbcA_B : Statement .sbcA_B := ⟨_, _, rfl, rfl⟩
theorem sbcA_C : Statement .sbcA_C := ⟨_, _, rfl, rfl⟩
theorem sbcA_D : Statement .sbcA_D := ⟨_, _, rfl, rfl⟩
theorem sbcA_E : Statement .sbcA_E := ⟨_, _, rfl, rfl⟩
theorem sbcA_H : Statement .sbcA_H := ⟨_, _, rfl, rfl⟩
theorem sbcA_L : Statement .sbcA_L := ⟨_, _, rfl, rfl⟩
theorem sbcA_MHL : Statement .sbcA_MHL := ⟨_, _, rfl, rfl⟩
theorem sbcA_A : Statement .sbcA_A := ⟨_, _, rfl, rfl⟩
theorem andA_B : Statement .andA_B := ⟨_, _, rfl, rfl⟩
theorem andA_C : Statement .andA_C := ⟨_, _, rfl, rfl⟩
theorem andA_D : Statement .andA_D := ⟨_, _, rfl, rfl⟩
theorem andA_E : Statement .andA_E := ⟨_, _, rfl, rfl⟩
theorem andA_H : Statement .andA_H := ⟨_, _, rfl, rfl⟩
theorem andA_L : Statement .andA_L := ⟨_, _, rfl, rfl⟩
theorem andA_MHL : Statement .andA_MHL := ⟨_, _, rfl, rfl⟩
theorem andA_A : Statement .andA_A := ⟨_, _, rfl, rfl⟩
theorem xorA_B : Statement .xorA_B := ⟨_, _, rfl, rfl⟩
theorem xorA_C : Statement .xorA_C := ⟨_, _, rfl, rfl⟩
theorem xorA_D : Statement .xorA_D := ⟨_, _, rfl, rfl⟩
theorem xorA_E : Statement .xorA_E := ⟨_, _, rfl, rfl⟩
theorem xorA_H : Statement .xorA_H := ⟨_, _, rfl, rfl⟩
theorem xorA_L : Statement .xorA_L := ⟨_, _, rfl, rfl⟩
theorem xorA_MHL : Statement .xorA_MHL := ⟨_, _, rfl, rfl⟩
theorem xorA_A : Statement .xorA_A := ⟨_, _, rfl, rfl⟩
theorem orA_B : Statement .orA_B := ⟨_, _, rfl, rfl⟩
theorem orA_C : Statement .orA_C := ⟨_, _, rfl, rfl⟩
theorem orA_D : Statement .orA_D := ⟨_, _, rfl, rfl⟩
theorem orA_E : Statement .orA_E := ⟨_, _, rfl, rfl⟩
theorem orA_H : Statement .orA_H := ⟨_, _, rfl, rfl⟩
theorem orA_L : Statement .orA_L := ⟨_, _, rfl, rfl⟩
theorem orA_MHL : Statement .orA_MHL := ⟨_, _, rfl, rfl⟩
theorem orA_A : Statement .orA_A := ⟨_, _, rfl, rfl⟩
theorem cpA_B : Statement .cpA_B := ⟨_, _, rfl, rfl⟩
theorem cpA_C : Statement .cpA_C := ⟨_, _, rfl, rfl⟩
theorem cpA_D : Statement .cpA_D := ⟨_, _, rfl, rfl⟩
theorem cpA_E : Statement .cpA_E := ⟨_, _, rfl, rfl⟩
theorem cpA_H : Statement .cpA_H := ⟨_, _, rfl, rfl⟩
theorem cpA_L : Statement .cpA_L := ⟨_, _, rfl, rfl⟩
theorem cpA_MHL : Statement .cpA_MHL := ⟨_, _, rfl, rfl⟩
theorem cpA_A : Statement .cpA_A := ⟨_, _, rfl, rfl⟩
theorem retNZ : Statement .retNZ := ⟨_, _, rfl, rfl⟩
theorem popBC : Statement .popBC := ⟨_, _, rfl, rfl⟩
theorem pushBC : Statement .pushBC := ⟨_, _, rfl, rfl⟩
theorem rst00 : Statement .rst00 := ⟨_, _, rfl, rfl⟩
theorem retZ : Statement .retZ := ⟨_, _, rfl, rfl⟩
theorem ret : Statement .ret := ⟨_, _, rfl, rfl⟩
theorem rst08 : Statement .rst08 := ⟨_, _, rfl, rfl⟩
theorem retNC : Statement .retNC := ⟨_, _, rfl, rfl⟩
theorem popDE : Statement .popDE := ⟨_, _, rfl, rfl⟩
theorem undefinedD3 : Statement .undefinedD3 := ⟨_, _, rfl, rfl⟩
theorem pushDE : Statement .pushDE := ⟨_, _, rfl, rfl⟩
theorem rst10 : Statement .rst10 := ⟨_, _, rfl, rfl⟩
theorem retC : Statement .retC := ⟨_, _, rfl, rfl⟩
theorem reti : Statement .reti := ⟨_, _, rfl, rfl⟩
theorem undefinedDB : Statement .undefinedDB := ⟨_, _, rfl, rfl⟩
theorem undefinedDD : Statement .undefinedDD := ⟨_, _, rfl, rfl⟩
theorem rst18 : Statement .rst18 := ⟨_, _, rfl, rfl⟩
theorem popHL : Statement .popHL := ⟨_, _, rfl, rfl⟩
theorem ldMC_A : Statement .ldMC_A := ⟨_, _, rfl, rfl⟩
theorem undefinedE3 : Statement .undefinedE3 := ⟨_, _, rfl, rfl⟩
theorem undefinedE4 : Statement .undefinedE4 := ⟨_, _, rfl, rfl⟩
theorem pushHL : Statement .pushHL := ⟨_, _, rfl, rfl⟩
theorem rst20 : Statement .rst20 := ⟨_, _, rfl, rfl⟩
theorem jpHL : Statement .jpHL := ⟨_, _, rfl, rfl⟩
theorem undefinedEB : Statement .undefinedEB := ⟨_, _, rfl, rfl⟩
theorem undefinedEC : Statement .undefinedEC := ⟨_, _, rfl, rfl⟩
theorem undefinedED : Statement .undefinedED := ⟨_, _, rfl, rfl⟩
theorem rst28 : Statement .rst28 := ⟨_, _, rfl, rfl⟩
theorem popAF : Statement .popAF := ⟨_, _, rfl, rfl⟩
theorem ldA_MC : Statement .ldA_MC := ⟨_, _, rfl, rfl⟩
theorem di : Statement .di := ⟨_, _, rfl, rfl⟩
theorem undefinedF4 : Statement .undefinedF4 := ⟨_, _, rfl, rfl⟩
theorem pushAF : Statement .pushAF := ⟨_, _, rfl, rfl⟩
theorem rst30 : Statement .rst30 := ⟨_, _, rfl, rfl⟩
theorem ldSP_HL : Statement .ldSP_HL := ⟨_, _, rfl, rfl⟩
theorem ei : Statement .ei := ⟨_, _, rfl, rfl⟩
theorem undefinedFC : Statement .undefinedFC := ⟨_, _, rfl, rfl⟩
theorem undefinedFD : Statement .undefinedFD := ⟨_, _, rfl, rfl⟩
theorem rst38 : Statement .rst38 := ⟨_, _, rfl, rfl⟩
theorem rlcB : Statement .rlcB := ⟨_, _, rfl, rfl⟩
theorem rlcC : Statement .rlcC := ⟨_, _, rfl, rfl⟩
theorem rlcD : Statement .rlcD := ⟨_, _, rfl, rfl⟩
theorem rlcE : Statement .rlcE := ⟨_, _, rfl, rfl⟩
theorem rlcH : Statement .rlcH := ⟨_, _, rfl, rfl⟩
theorem rlcL : Statement .rlcL := ⟨_, _, rfl, rfl⟩
theorem rlcMHL : Statement .rlcMHL := ⟨_, _, rfl, rfl⟩
theorem rlcA : Statement .rlcA := ⟨_, _, rfl, rfl⟩
theorem rrcB : Statement .rrcB := ⟨_, _, rfl, rfl⟩
theorem rrcC : Statement .rrcC := ⟨_, _, rfl, rfl⟩
theorem rrcD : Statement .rrcD := ⟨_, _, rfl, rfl⟩
theorem rrcE : Statement .rrcE := ⟨_, _, rfl, rfl⟩
theorem rrcH : Statement .rrcH := ⟨_, _, rfl, rfl⟩
theorem rrcL : Statement .rrcL := ⟨_, _, rfl, rfl⟩
theorem rrcMHL : Statement .rrcMHL := ⟨_, _, rfl, rfl⟩
theorem rrcA : Statement .rrcA := ⟨_, _, rfl, rfl⟩
theorem rlB : Statement .rlB := ⟨_, _, rfl, rfl⟩
theorem rlC : Statement .rlC := ⟨_, _, rfl, rfl⟩
theorem rlD : Statement .rlD := ⟨_, _, rfl, rfl⟩
theorem rlE : Statement .rlE := ⟨_, _, rfl, rfl⟩
theorem rlH : Statement .rlH := ⟨_, _, rfl, rfl⟩
theorem rlL : Statement .rlL := ⟨_, _, rfl, rfl⟩
theorem rlMHL : Statement .rlMHL := ⟨_, _, rfl, rfl⟩
theorem rlA : Statement .rlA := ⟨_, _, rfl, rfl⟩
theorem rrB : Statement .rrB := ⟨_, _, rfl, rfl⟩
theorem rrC : Statement .rrC := ⟨_, _, rfl, rfl⟩
theorem rrD : Statement .rrD := ⟨_, _, rfl, rfl⟩
theorem rrE : Statement .rrE := ⟨_, _, rfl, rfl⟩
theorem rrH : Statement .rrH := ⟨_, _, rfl, rfl⟩
theorem rrL : Statement .rrL := ⟨_, _, rfl, rfl⟩
theorem rrMHL : Statement .rrMHL := ⟨_, _, rfl, rfl⟩
theorem rrA : Statement .rrA := ⟨_, _, rfl, rfl⟩
theorem slaB : Statement .slaB := ⟨_, _, rfl, rfl⟩
theorem slaC : Statement .slaC := ⟨_, _, rfl, rfl⟩
theorem slaD : Statement .slaD := ⟨_, _, rfl, rfl⟩
theorem slaE : Statement .slaE := ⟨_, _, rfl, rfl⟩
theorem slaH : Statement .slaH := ⟨_, _, rfl, rfl⟩
theorem slaL : Statement .slaL := ⟨_, _, rfl, rfl⟩
theorem slaMHL : Statement .slaMHL := ⟨_, _, rfl, rfl⟩
theorem slaA : Statement .slaA := ⟨_, _, rfl, rfl⟩
theorem sraB : Statement .sraB := ⟨_, _, rfl, rfl⟩
theorem sraC : Statement .sraC := ⟨_, _, rfl, rfl⟩
theorem sraD : Statement .sraD := ⟨_, _, rfl, rfl⟩
theorem sraE : Statement .sraE := ⟨_, _, rfl, rfl⟩
theorem sraH : Statement .sraH := ⟨_, _, rfl, rfl⟩
theorem sraL : Statement .sraL := ⟨_, _, rfl, rfl⟩
theorem sraMHL : Statement .sraMHL := ⟨_, _, rfl, rfl⟩
theorem sraA : Statement .sraA := ⟨_, _, rfl, rfl⟩
theorem swapB : Statement .swapB := ⟨_, _, rfl, rfl⟩
theorem swapC : Statement .swapC := ⟨_, _, rfl, rfl⟩
theorem swapD : Statement .swapD := ⟨_, _, rfl, rfl⟩
theorem swapE : Statement .swapE := ⟨_, _, rfl, rfl⟩
theorem swapH : Statement .swapH := ⟨_, _, rfl, rfl⟩
theorem swapL : Statement .swapL := ⟨_, _, rfl, rfl⟩
theorem swapMHL : Statement .swapMHL := ⟨_, _, rfl, rfl⟩
theorem swapA : Statement .swapA := ⟨_, _, rfl, rfl⟩
theorem srlB : Statement .srlB := ⟨_, _, rfl, rfl⟩
theorem srlC : Statement .srlC := ⟨_, _, rfl, rfl⟩
theorem srlD : Statement .srlD := ⟨_, _, rfl, rfl⟩
theorem srlE : Statement .srlE := ⟨_, _, rfl, rfl⟩
theorem srlH : Statement .srlH := ⟨_, _, rfl, rfl⟩
theorem srlL : Statement .srlL := ⟨_, _, rfl, rfl⟩
theorem srlMHL : Statement .srlMHL := ⟨_, _, rfl, rfl⟩
theorem srlA : Statement .srlA := ⟨_, _, rfl, rfl⟩
theorem bit0_B : Statement .bit0_B := ⟨_, _, rfl, rfl⟩
theorem bit0_C : Statement .bit0_C := ⟨_, _, rfl, rfl⟩
theorem bit0_D : Statement .bit0_D := ⟨_, _, rfl, rfl⟩
theorem bit0_E : Statement .bit0_E := ⟨_, _, rfl, rfl⟩
theorem bit0_H : Statement .bit0_H := ⟨_, _, rfl, rfl⟩
theorem bit0_L : Statement .bit0_L := ⟨_, _, rfl, rfl⟩
theorem bit0_MHL : Statement .bit0_MHL := ⟨_, _, rfl, rfl⟩
theorem bit0_A : Statement .bit0_A := ⟨_, _, rfl, rfl⟩
theorem bit1_B : Statement .bit1_B := ⟨_, _, rfl, rfl⟩
theorem bit1_C : Statement .bit1_C := ⟨_, _, rfl, rfl⟩
theorem bit1_D : Statement .bit1_D := ⟨_, _, rfl, rfl⟩
theorem bit1_E : Statement .bit1_E := ⟨_, _, rfl, rfl⟩
theorem bit1_H : Statement .bit1_H := ⟨_, _, rfl, rfl⟩
theorem bit1_L : Statement .bit1_L := ⟨_, _, rfl, rfl⟩
theorem bit1_MHL : Statement .bit1_MHL := ⟨_, _, rfl, rfl⟩
theorem bit1_A : Statement .bit1_A := ⟨_, _, rfl, rfl⟩
theorem bit2_B : Statement .bit2_B := ⟨_, _, rfl, rfl⟩
theorem bit2_C : Statement .bit2_C := ⟨_, _, rfl, rfl⟩
theorem bit2_D : Statement .bit2_D := ⟨_, _, rfl, rfl⟩
theorem bit2_E : Statement .bit2_E := ⟨_, _, rfl, rfl⟩
theorem bit2_H : Statement .bit2_H := ⟨_, _, rfl, rfl⟩
theorem bit2_L : Statement .bit2_L := ⟨_, _, rfl, rfl⟩
theorem bit2_MHL : Statement .bit2_MHL := ⟨_, _, rfl, rfl⟩
theorem bit2_A : Statement .bit2_A := ⟨_, _, rfl, rfl⟩
theorem bit3_B : Statement .bit3_B := ⟨_, _, rfl, rfl⟩
theorem bit3_C : Statement .bit3_C := ⟨_, _, rfl, rfl⟩
theorem bit3_D : Statement .bit3_D := ⟨_, _, rfl, rfl⟩
theorem bit3_E : Statement .bit3_E := ⟨_, _, rfl, rfl⟩
theorem bit3_H : Statement .bit3_H := ⟨_, _, rfl, rfl⟩
theorem bit3_L : Statement .bit3_L := ⟨_, _, rfl, rfl⟩
theorem bit3_MHL : Statement .bit3_MHL := ⟨_, _, rfl, rfl⟩
theorem bit3_A : Statement .bit3_A := ⟨_, _, rfl, rfl⟩
theorem bit4_B : Statement .bit4_B := ⟨_, _, rfl, rfl⟩
theorem bit4_C : Statement .bit4_C := ⟨_, _, rfl, rfl⟩
theorem bit4_D : Statement .bit4_D := ⟨_, _, rfl, rfl⟩
theorem bit4_E : Statement .bit4_E := ⟨_, _, rfl, rfl⟩
theorem bit4_H : Statement .bit4_H := ⟨_, _, rfl, rfl⟩
theorem bit4_L : Statement .bit4_L := ⟨_, _, rfl, rfl⟩
theorem bit4_MHL : Statement .bit4_MHL := ⟨_, _, rfl, rfl⟩
theorem bit4_A : Statement .bit4_A := ⟨_, _, rfl, rfl⟩
theorem bit5_B : Statement .bit5_B := ⟨_, _, rfl, rfl⟩
theorem bit5_C : Statement .bit5_C := ⟨_, _, rfl, rfl⟩
theorem bit5_D : Statement .bit5_D := ⟨_, _, rfl, rfl⟩
theorem bit5_E : Statement .bit5_E := ⟨_, _, rfl, rfl⟩
theorem bit5_H : Statement .bit5_H := ⟨_, _, rfl, rfl⟩
theorem bit5_L : Statement .bit5_L := ⟨_, _, rfl, rfl⟩
theorem bit5_MHL : Statement .bit5_MHL := ⟨_, _, rfl, rfl⟩
theorem bit5_A : Statement .bit5_A := ⟨_, _, rfl, rfl⟩
theorem bit6_B : Statement .bit6_B := ⟨_, _, rfl, rfl⟩
theorem bit6_C : Statement .bit6_C := ⟨_, _, rfl, rfl⟩
theorem bit6_D : Statement .bit6_D := ⟨_, _, rfl, rfl⟩
theorem bit6_E : Statement .bit6_E := ⟨_, _, rfl, rfl⟩
theorem bit6_H : Statement .bit6_H := ⟨_, _, rfl, rfl⟩
theorem bit6_L : Statement .bit6_L := ⟨_, _, rfl, rfl⟩
theorem bit6_MHL : Statement .bit6_MHL := ⟨_, _, rfl, rfl⟩
theorem bit6_A : Statement .bit6_A := ⟨_, _, rfl, rfl⟩
theorem bit7_B : Statement .bit7_B := ⟨_, _, rfl, rfl⟩
theorem bit7_C : Statement .bit7_C := ⟨_, _, rfl, rfl⟩
theorem bit7_D : Statement .bit7_D := ⟨_, _, rfl, rfl⟩
theorem bit7_E : Statement .bit7_E := ⟨_, _, rfl, rfl⟩
theorem bit7_H : Statement .bit7_H := ⟨_, _, rfl, rfl⟩
theorem bit7_L : Statement .bit7_L := ⟨_, _, rfl, rfl⟩
theorem bit7_MHL : Statement .bit7_MHL := ⟨_, _, rfl, rfl⟩
theorem bit7_A : Statement .bit7_A := ⟨_, _, rfl, rfl⟩
theorem res0_B : Statement .res0_B := ⟨_, _, rfl, rfl⟩
theorem res0_C : Statement .res0_C := ⟨_, _, rfl, rfl⟩
theorem res0_D : Statement .res0_D := ⟨_, _, rfl, rfl⟩
theorem res0_E : Statement .res0_E := ⟨_, _, rfl, rfl⟩
theorem res0_H : Statement .res0_H := ⟨_, _, rfl, rfl⟩
theorem res0_L : Statement .res0_L := ⟨_, _, rfl, rfl⟩
theorem res0_MHL : Statement .res0_MHL := ⟨_, _, rfl, rfl⟩
theorem res0_A : Statement .res0_A := ⟨_, _, rfl, rfl⟩
theorem res1_B : Statement .res1_B := ⟨_, _, rfl, rfl⟩
theorem res1_C : Statement .res1_C := ⟨_, _, rfl, rfl⟩
theorem res1_D : Statement .res1_D := ⟨_, _, rfl, rfl⟩
theorem res1_E : Statement .res1_E := ⟨_, _, rfl, rfl⟩
theorem res1_H : Statement .res1_H := ⟨_, _, rfl, rfl⟩
theorem res1_L : Statement .res1_L := ⟨_, _, rfl, rfl⟩
theorem res1_MHL : Statement .res1_MHL := ⟨_, _, rfl, rfl⟩
theorem res1_A : Statement .res1_A := ⟨_, _, rfl, rfl⟩
theorem res2_B : Statement .res2_B := ⟨_, _, rfl, rfl⟩
theorem res2_C : Statement .res2_C := ⟨_, _, rfl, rfl⟩
theorem res2_D : Statement .res2_D := ⟨_, _, rfl, rfl⟩
theorem res2_E : Statement .res2_E := ⟨_, _, rfl, rfl⟩
theorem res2_H : Statement .res2_H := ⟨_, _, rfl, rfl⟩
theorem res2_L : Statement .res2_L := ⟨_, _, rfl, rfl⟩
theorem res2_MHL : Statement .res2_MHL := ⟨_, _, rfl, rfl⟩
theorem res2_A : Statement .res2_A := ⟨_, _, rfl, rfl⟩
theorem res3_B : Statement .res3_B := ⟨_, _, rfl, rfl⟩
theorem res3_C : Statement .res3_C := ⟨_, _, rfl, rfl⟩
theorem res3_D : Statement .res3_D := ⟨_, _, rfl, rfl⟩
theorem res3_E : Statement .res3_E := ⟨_, _, rfl, rfl⟩
theorem res3_H : Statement .res3_H := ⟨_, _, rfl, rfl⟩
theorem res3_L : Statement .res3_L := ⟨_, _, rfl, rfl⟩
theorem res3_MHL : Statement .res3_MHL := ⟨_, _, rfl, rfl⟩
theorem res3_A : Statement .res3_A := ⟨_, _, rfl, rfl⟩
theorem res4_B : Statement .res4_B := ⟨_, _, rfl, rfl⟩
theorem res4_C : Statement .res4_C := ⟨_, _, rfl, rfl⟩
theorem res4_D : Statement .res4_D := ⟨_, _, rfl, rfl⟩
theorem res4_E : Statement .res4_E := ⟨_, _, rfl, rfl⟩
theorem res4_H : Statement .res4_H := ⟨_, _, rfl, rfl⟩
theorem res4_L : Statement .res4_L := ⟨_, _, rfl, rfl⟩
theorem res4_MHL : Statement .res4_MHL := ⟨_, _, rfl, rfl⟩
theorem res4_A : Statement .res4_A := ⟨_, _, rfl, rfl⟩
theorem res5_B : Statement .res5_B := ⟨_, _, rfl, rfl⟩
theorem res5_C : Statement .res5_C := ⟨_, _, rfl, rfl⟩
theorem res5_D : Statement .res5_D := ⟨_, _, rfl, rfl⟩
theorem res5_E : Statement .res5_E := ⟨_, _, rfl, rfl⟩
theorem res5_H : Statement .res5_H := ⟨_, _, rfl, rfl⟩
theorem res5_L : Statement .res5_L := ⟨_, _, rfl, rfl⟩
theorem res5_MHL : Statement .res5_MHL := ⟨_, _, rfl, rfl⟩
theorem res5_A : Statement .res5_A := ⟨_, _, rfl, rfl⟩
theorem res6_B : Statement .res6_B := ⟨_, _, rfl, rfl⟩
theorem res6_C : Statement .res6_C := ⟨_, _, rfl, rfl⟩
theorem res6_D : Statement .res6_D := ⟨_, _, rfl, rfl⟩
theorem res6_E : Statement .res6_E := ⟨_, _, rfl, rfl⟩
theorem res6_H : Statement .res6_H := ⟨_, _, rfl, rfl⟩
theorem res6_L : Statement .res6_L := ⟨_, _, rfl, rfl⟩
theorem res6_MHL : Statement .res6_MHL := ⟨_, _, rfl, rfl⟩
theorem res6_A : Statement .res6_A := ⟨_, _, rfl, rfl⟩
theorem res7_B : Statement .res7_B := ⟨_, _, rfl, rfl⟩
theorem res7_C : Statement .res7_C := ⟨_, _, rfl, rfl⟩
theorem res7_D : Statement .res7_D := ⟨_, _, rfl, rfl⟩
theorem res7_E : Statement .res7_E := ⟨_, _, rfl, rfl⟩
theorem res7_H : Statement .res7_H := ⟨_, _, rfl, rfl⟩
theorem res7_L : Statement .res7_L := ⟨_, _, rfl, rfl⟩
theorem res7_MHL : Statement .res7_MHL := ⟨_, _, rfl, rfl⟩
theorem res7_A : Statement .res7_A := ⟨_, _, rfl, rfl⟩
theorem set0_B : Statement .set0_B := ⟨_, _, rfl, rfl⟩
theorem set0_C : Statement .set0_C := ⟨_, _, rfl, rfl⟩
theorem set0_D : Statement .set0_D := ⟨_, _, rfl, rfl⟩
theorem set0_E : Statement .set0_E := ⟨_, _, rfl, rfl⟩
theorem set0_H : Statement .set0_H := ⟨_, _, rfl, rfl⟩
theorem set0_L : Statement .set0_L := ⟨_, _, rfl, rfl⟩
theorem set0_MHL : Statement .set0_MHL := ⟨_, _, rfl, rfl⟩
theorem set0_A : Statement .set0_A := ⟨_, _, rfl, rfl⟩
theorem set1_B : Statement .set1_B := ⟨_, _, rfl, rfl⟩
theorem set1_C : Statement .set1_C := ⟨_, _, rfl, rfl⟩
theorem set1_D : Statement .set1_D := ⟨_, _, rfl, rfl⟩
theorem set1_E : Statement .set1_E := ⟨_, _, rfl, rfl⟩
theorem set1_H : Statement .set1_H := ⟨_, _, rfl, rfl⟩
theorem set1_L : Statement .set1_L := ⟨_, _, rfl, rfl⟩
theorem set1_MHL : Statement .set1_MHL := ⟨_, _, rfl, rfl⟩
theorem set1_A : Statement .set1_A := ⟨_, _, rfl, rfl⟩
theorem set2_B : Statement .set2_B := ⟨_, _, rfl, rfl⟩
theorem set2_C : Statement .set2_C := ⟨_, _, rfl, rfl⟩
theorem set2_D : Statement .set2_D := ⟨_, _, rfl, rfl⟩
theorem set2_E : Statement .set2_E := ⟨_, _, rfl, rfl⟩
theorem set2_H : Statement .set2_H := ⟨_, _, rfl, rfl⟩
theorem set2_L : Statement .set2_L := ⟨_, _, rfl, rfl⟩
theorem set2_MHL : Statement .set2_MHL := ⟨_, _, rfl, rfl⟩
theorem set2_A : Statement .set2_A := ⟨_, _, rfl, rfl⟩
theorem set3_B : Statement .set3_B := ⟨_, _, rfl, rfl⟩
theorem set3_C : Statement .set3_C := ⟨_, _, rfl, rfl⟩
theorem set3_D : Statement .set3_D := ⟨_, _, rfl, rfl⟩
theorem set3_E : Statement .set3_E := ⟨_, _, rfl, rfl⟩
theorem set3_H : Statement .set3_H := ⟨_, _, rfl, rfl⟩
theorem set3_L : Statement .set3_L := ⟨_, _, rfl, rfl⟩
theorem set3_MHL : Statement .set3_MHL := ⟨_, _, rfl, rfl⟩
theorem set3_A : Statement .set3_A := ⟨_, _, rfl, rfl⟩
theorem set4_B : Statement .set4_B := ⟨_, _, rfl, rfl⟩
theorem set4_C : Statement .set4_C := ⟨_, _, rfl, rfl⟩
theorem set4_D : Statement .set4_D := ⟨_, _, rfl, rfl⟩
theorem set4_E : Statement .set4_E := ⟨_, _, rfl, rfl⟩
theorem set4_H : Statement .set4_H := ⟨_, _, rfl, rfl⟩
theorem set4_L : Statement .set4_L := ⟨_, _, rfl, rfl⟩
theorem set4_MHL : Statement .set4_MHL := ⟨_, _, rfl, rfl⟩
theorem set4_A : Statement .set4_A := ⟨_, _, rfl, rfl⟩
theorem set5_B : Statement .set5_B := ⟨_, _, rfl, rfl⟩
theorem set5_C : Statement .set5_C := ⟨_, _, rfl, rfl⟩
theorem set5_D : Statement .set5_D := ⟨_, _, rfl, rfl⟩
theorem set5_E : Statement .set5_E := ⟨_, _, rfl, rfl⟩
theorem set5_H : Statement .set5_H := ⟨_, _, rfl, rfl⟩
theorem set5_L : Statement .set5_L := ⟨_, _, rfl, rfl⟩
theorem set5_MHL : Statement .set5_MHL := ⟨_, _, rfl, rfl⟩
theorem set5_A : Statement .set5_A := ⟨_, _, rfl, rfl⟩
theorem set6_B : Statement .set6_B := ⟨_, _, rfl, rfl⟩
theorem set6_C : Statement .set6_C := ⟨_, _, rfl, rfl⟩
theorem set6_D : Statement .set6_D := ⟨_, _, rfl, rfl⟩
theorem set6_E : Statement .set6_E := ⟨_, _, rfl, rfl⟩
theorem set6_H : Statement .set6_H := ⟨_, _, rfl, rfl⟩
theorem set6_L : Statement .set6_L := ⟨_, _, rfl, rfl⟩
theorem set6_MHL : Statement .set6_MHL := ⟨_, _, rfl, rfl⟩
theorem set6_A : Statement .set6_A := ⟨_, _, rfl, rfl⟩
theorem set7_B : Statement .set7_B := ⟨_, _, rfl, rfl⟩
theorem set7_C : Statement .set7_C := ⟨_, _, rfl, rfl⟩
theorem set7_D : Statement .set7_D := ⟨_, _, rfl, rfl⟩
theorem set7_E : Statement .set7_E := ⟨_, _, rfl, rfl⟩
theorem set7_H : Statement .set7_H := ⟨_, _, rfl, rfl⟩
theorem set7_L : Statement .set7_L := ⟨_, _, rfl, rfl⟩
theorem set7_MHL : Statement .set7_MHL := ⟨_, _, rfl, rfl⟩
theorem set7_A : Statement .set7_A := ⟨_, _, rfl, rfl⟩

end Sys2Proof.Laws.Encoding
end

