-- ==== Sys2Proof/Laws/Ppu.lean ====
section
/-! SUPPORT. What the rendering passes of the PPU can change, said once: `Painted d p q ly` is all that a pass over line `ly` of
a screen `d` may do, and `advance_cases` is what a tick may do. -/

namespace Sys2Proof.Machine

/-- `q` is `p` with other framebuffer, line buffer and window items, the framebuffer unchanged outside line `ly` and both
stores kept in canonical form. -/
structure Painted (d : Screen) (p q : Ppu) (ly : Nat) : Prop where
  eq : q = { p with fb := q.fb, bgidx := q.bgidx, winInFrame := q.winInFrame, winLine := q.winLine }
  far : ∀ k, k < ly * d.w ∨ ly * d.w + d.w ≤ k → q.fb.read k = p.fb.read k
  wfFb : p.fb.wf = true → q.fb.wf = true
  wfIdx : p.bgidx.wf = true → q.bgidx.wf = true

variable {d : Screen} {p q r : Ppu} {ly : Nat}

theorem Painted.refl (d : Screen) (p : Ppu) (ly : Nat) : Painted d p p ly := ⟨rfl, fun _ _ => rfl, id, id⟩

theorem Painted.trans (h : Painted d p q ly) (h' : Painted d q r ly) : Painted d p r ly where
  eq := by rw [h'.eq, h.eq]
  far k hk := (h'.far k hk).trans (h.far k hk)
  wfFb w := h'.wfFb (h.wfFb w)
  wfIdx w := h'.wfIdx (h.wfIdx w)

theorem Painted.foldl {α : Type} (f : Ppu → α → Ppu) (l : List α) (hf : ∀ q, ∀ x ∈ l, Painted d q (f q x) ly) (p : Ppu) :
    Painted d p (l.foldl f p) ly := by
  induction l generalizing p with
  | nil => exact .refl d p ly
  | cons x l ih =>
    exact (hf p x (by simp)).trans (ih (fun q y hy => hf q y (by simp [hy])) (f p x))

/-- Painting one entry of a line. -/
theorem painted_paint (d : Screen) (p : Ppu) (ly x : Nat) (hx : x < d.w) (v : BitVec 2) : Painted d p (p.paint d ly x v) ly where
  eq := rfl
  far k hk := by
    simp only [Ppu.paint]; split
    · exact Sparse.read_write_ne _ _ (by simp only [fbKey]; omega)
    · rfl
  wfFb w := by
    simp only [Ppu.paint]; split
    · exact Sparse.wf_write w _ _
    · exact w
  wfIdx := id

theorem painted_plot (d : Screen) (p : Ppu) (ly x : Nat) (hx : x < d.w) (idx : BitVec 2) : Painted d p (p.plot d ly x idx) ly :=
  .trans (q := { p with bgidx := p.bgidx.write x idx }) ⟨rfl, fun _ _ => rfl, id, fun w => Sparse.wf_write w _ _⟩
    (painted_paint d _ ly x hx _)

theorem painted_latch (d : Screen) (p : Ppu) (ly : Nat) : Painted d p (p.latchWindow ly) ly := by
  unfold Ppu.latchWindow; split
  · exact ⟨rfl, fun _ _ => rfl, id, id⟩
  · exact .refl d p ly

theorem painted_window (d : Screen) (p : Ppu) (ram : Memory) (ly : Nat) : Painted d p (p.windowPass d ram ly) ly := by
  unfold Ppu.windowPass; split
  · refine .trans (.foldl _ _ (fun q x hx => painted_plot d q ly x ?_ _) p) ⟨rfl, fun _ _ => rfl, id, id⟩
    simp only [List.mem_filter, List.mem_range] at hx
    exact hx.1
  · exact .refl d p ly

theorem painted_background (d : Screen) (q p : Ppu) (ram : Memory) (ly : Nat) : Painted d q (q.backgroundPass p d ram ly) ly := by
  refine .foldl _ _ (fun q x hx => painted_plot d q ly x ?_ _) q
  simp only [List.mem_filter, List.mem_range] at hx
  exact hx.1

/-- A sprite pixel writes at most one byte of its line. -/
theorem spritePixel_cases (d : Screen) (p : Ppu) (ram : Memory) (ly : Nat) (o : Sprite) (c : Nat) :
    p.spritePixel d ram ly o c = p ∨ ∃ x < d.w, ∃ v, p.spritePixel d ram ly o c = p.paint d ly x v := by
  unfold Ppu.spritePixel
  simp only
  generalize tilePixel ram _ _ _ = idx
  split
  · exact .inl rfl
  · rename_i h
    split
    · exact .inl rfl
    · split
      · exact .inl rfl
      · refine .inr ⟨_, ?_, _, rfl⟩
        omega

theorem painted_spritePixel (d : Screen) (p : Ppu) (ram : Memory) (ly : Nat) (o : Sprite) (c : Nat) :
    Painted d p (p.spritePixel d ram ly o c) ly := by
  rcases spritePixel_cases d p ram ly o c with h | ⟨x, hx, v, h⟩ <;> rw [h]
  · exact .refl d p ly
  · exact painted_paint d p ly x hx v

theorem painted_sprites (d : Screen) (p : Ppu) (ram : Memory) (ly : Nat) : Painted d p (p.spritePass d ram ly) ly := by
  unfold Ppu.spritePass; split
  · exact .foldl _ _ (fun q o _ => .foldl _ _ (fun q c _ => painted_spritePixel d q ram ly o c) q) p
  · exact .refl d p ly

theorem painted_renderLine (d : Screen) (p : Ppu) (ram : Memory) (ly : Nat) : Painted d p (p.renderLine d ram ly) ly :=
  (((painted_latch d p ly).trans (painted_window d _ ram ly)).trans (painted_background d _ _ ram ly)).trans
    (painted_sprites d _ ram ly)

/-! ## The sprite passes leave the line buffer and the window items alone -/

theorem spritePass_keeps (d : Screen) (p : Ppu) (ram : Memory) (ly : Nat) :
    p.spritePass d ram ly = { p with fb := (p.spritePass d ram ly).fb } := by
  have fold : ∀ {α : Type} (f : Ppu → α → Ppu) (l : List α), (∀ q x, f q x = { q with fb := (f q x).fb }) →
      ∀ q, l.foldl f q = { q with fb := (l.foldl f q).fb } := by
    intro α f l hf
    induction l with
    | nil => intro q; rfl
    | cons x l ih =>
      intro q
      simp only [List.foldl_cons]
      rw [ih (f q x), hf q x]
  have px : ∀ (q : Ppu) (o : Sprite) (c : Nat), q.spritePixel d ram ly o c = { q with fb := (q.spritePixel d ram ly o c).fb } := by
    intro q o c
    rcases spritePixel_cases d q ram ly o c with h | ⟨x, _, v, h⟩
    · rw [h]
    · rw [h]; rfl
  unfold Ppu.spritePass; split
  · exact fold _ _ (fun q o => fold (fun q c => q.spritePixel d ram ly o c) _ (fun q c => px q o c) q) p
  · rfl

/-! ## The stable sort of R338 -/

theorem insertByX_perm (o : Sprite) (l : List Sprite) : (insertByX o l).Perm (o :: l) := by
  induction l with
  | nil => exact .refl _
  | cons q r ih =>
    simp only [insertByX]; split
    · exact .refl _
    · exact (ih.cons q).trans (.swap o q r)

theorem sortByX_perm (l : List Sprite) : (sortByX l).Perm l := by
  induction l with
  | nil => exact .refl _
  | cons o l ih => exact (insertByX_perm o _).trans (ih.cons o)

theorem insertByX_sorted (o : Sprite) {l : List Sprite} (h : l.Pairwise (fun p q => p.x.toNat ≤ q.x.toNat)) :
    (insertByX o l).Pairwise (fun p q => p.x.toNat ≤ q.x.toNat) := by
  induction l with
  | nil => simp [insertByX]
  | cons q r ih =>
    rw [List.pairwise_cons] at h
    simp only [insertByX]; split
    · rename_i hle
      refine List.pairwise_cons.2 ⟨fun y hy => ?_, List.pairwise_cons.2 h⟩
      rcases List.mem_cons.1 hy with rfl | hy
      · exact hle
      · exact hle.trans (h.1 y hy)
    · rename_i hlt
      refine List.pairwise_cons.2 ⟨fun y hy => ?_, ih h.2⟩
      rcases List.mem_cons.1 ((insertByX_perm o r).subset hy) with rfl | hy
      · omega
      · exact h.1 y hy

theorem sortByX_sorted (l : List Sprite) : (sortByX l).Pairwise (fun p q => p.x.toNat ≤ q.x.toNat) := by
  induction l with
  | nil => exact List.Pairwise.nil
  | cons o l ih => exact insertByX_sorted o ih

/-- Inserting keeps table order among equal X: the new entry comes first. -/
theorem insertByX_filter (o : Sprite) (l : List Sprite) (h : l.Pairwise (fun p q => p.x.toNat ≤ q.x.toNat)) (x : Byte) :
    (insertByX o l).filter (fun q => q.x == x) = (o :: l).filter (fun q => q.x == x) := by
  induction l with
  | nil => rfl
  | cons q r ih =>
    rw [List.pairwise_cons] at h
    simp only [insertByX]; split
    · rfl
    · rename_i hlt
      have hne : o.x ≠ q.x := fun he => hlt (by rw [he])
      rw [List.filter_cons, ih h.2, List.filter_cons, List.filter_cons, List.filter_cons]
      by_cases h1 : q.x = x
      · have h2 : ¬ o.x = x := fun h2 => hne (h2.trans h1.symm)
        simp [h1, h2]
      · simp [h1]

theorem sortByX_stable (l : List Sprite) (x : Byte) :
    (sortByX l).filter (fun q => q.x == x) = l.filter (fun q => q.x == x) := by
  induction l with
  | nil => rfl
  | cons o l ih =>
    show (insertByX o (sortByX l)).filter _ = _
    rw [insertByX_filter o _ (sortByX_sorted l) x, List.filter_cons, ih, List.filter_cons]

theorem selectedSprites_length (ram : Memory) (lcdc : Byte) (ly : Nat) : (selectedSprites ram lcdc ly).length ≤ 10 := by
  unfold selectedSprites
  rw [(sortByX_perm _).length_eq, List.length_take]
  exact Nat.min_le_left ..

/-! ## The tick -/

/-- What a tick may change: never a register but `STAT` and `LY`; the stores stay canonical, the sprites ten in order, and
`LY` a line number. -/
structure Advanced (p q : Ppu) : Prop where
  wfFb : p.fb.wf = true → q.fb.wf = true
  wfIdx : p.bgidx.wf = true → q.bgidx.wf = true
  ly : p.ly.toNat ≤ 153 → q.ly.toNat ≤ 153
  sprites : q.sprites = p.sprites ∨ ∃ ram lcdc n, q.sprites = selectedSprites ram lcdc n

theorem advanced_of_painted (h : Painted d p q ly) : Advanced p q where
  wfFb := h.wfFb
  wfIdx := h.wfIdx
  ly w := by rw [h.eq]; exact w
  sprites := .inl (by rw [h.eq])

theorem advanced_advance (d : Screen) (p : Ppu) (ram : Memory) (n : Nat) : Advanced p (p.advance d ram n).1 := by
  have hly : p.ly.toNat ≤ 153 → (if p.ly = 153#8 then 0#8 else p.ly + 1#8).toNat ≤ 153 := by
    intro h; split
    · decide
    · rename_i hne
      have : p.ly.toNat ≠ 153 := fun e => hne (BitVec.eq_of_toNat_eq e)
      rw [BitVec.toNat_add]; simp only [BitVec.toNat_ofNat]; omega
  unfold Ppu.advance
  split
  · simp only
    split
    · unfold Ppu.rollover
      simp only
      generalize (if p.ly = 153#8 then 0#8 else p.ly + 1#8) = next at hly ⊢
      split
      · exact ⟨id, id, hly, .inl rfl⟩
      · split
        · have hp := painted_renderLine d
            (Ppu.selectSprites { p with ticks := p.ticks + n - Config.lineTicks, ly := next }
              ram next.toNat) ram next.toNat
          refine ⟨hp.wfFb, hp.wfIdx, fun h => ?_, .inr ⟨ram, p.lcdc, next.toNat, ?_⟩⟩
          · show (Ppu.ly (Ppu.renderLine ..)).toNat ≤ 153
            rw [hp.eq]; exact hly h
          · show Ppu.sprites (Ppu.renderLine ..) = _
            rw [hp.eq]; rfl
        · exact ⟨id, id, hly, .inl rfl⟩
    · split
      · exact ⟨id, id, id, .inl rfl⟩
      · exact ⟨id, id, id, .inl rfl⟩
  · exact ⟨id, id, id, .inl rfl⟩

end Sys2Proof.Machine
end

