-- ==== Sys2Proof/Laws/Step.lean ====
section
/-! SUPPORT. What a step can do, said once. `Kept P` lists the elementary moves of the machine; a property that each of
them keeps is kept by every instruction (`Kept.exec`) and every step (`Kept.step`). `step_answer` says that a step has a
next state or is refused for one of the two reasons of the cartridge. -/

namespace Sys2Proof.Machine

/-- The property `P` is kept by each elementary move of the machine. -/
structure Kept (P : State → Prop) : Prop where
  cpu : ∀ s (p : Cpu) n c, (s.cpu.f &&& 0x0F#8 = 0#8 → p.f &&& 0x0F#8 = 0#8) → P s →
    P { s with cpu := p, cost := n, cycles := c }
  write : ∀ s t a v, memWrite s a v = .ok t → P s → P t
  timer : ∀ (s : State) (m : Timer) (q : Irq), P s → P { s with timer := m, irq := q }
  dma : ∀ (s : State) m e, P s → P { s with dma := { s.dma with mode := m, elapsed := e } }
  oam : ∀ (s : State) i v, P s → P (s.setOam i v)
  ppu : ∀ (s : State) n q, P s → P { s with ppu := (s.ppu.advance s.params.screen s.ram n).1.statEval.1, irq := q }

theorem thenDo_next_iff {o : Out} {k : State → Out} {t : State} :
    thenDo o k = .next t ↔ ∃ u, o = .next u ∧ k u = .next t := by
  cases o <;> simp [thenDo]

theorem onOk_next_iff {α : Type} {e : Except Refusal α} {k : α → Out} {t : State} :
    onOk e k = .next t ↔ ∃ x, e = .ok x ∧ k x = .next t := by
  cases e <;> simp [onOk]

/-- Fetching moves `PC` and changes nothing else. -/
theorem fetchInstr_state {s u : State} {i : Instr} (h : fetchInstr s = .ok (i, u)) : ∃ pc, u = s.setPc pc := by
  have h8 : ∀ {a b : State} {v : Byte}, fetch8 a = .ok (v, b) → b = a.setPc (a.cpu.pc + 1#16) := by
    intro a b v e
    unfold fetch8 at e
    cases hm : memRead a a.cpu.pc with
    | error r => rw [hm] at e; cases e
    | ok w => rw [hm] at e; cases e; rfl
  unfold fetchInstr at h
  cases h1 : fetch8 s with
  | error r => rw [h1] at h; cases h
  | ok r1 =>
    obtain ⟨b0, s1⟩ := r1
    have e1 := h8 h1
    rw [h1] at h
    simp only at h
    split at h
    · cases h; exact ⟨_, e1⟩
    · cases h2 : fetch8 s1 with
      | error r => rw [h2] at h; cases h
      | ok r2 =>
        obtain ⟨b1, s2⟩ := r2
        have e2 := h8 h2
        rw [h2] at h; cases h
        subst e1; exact ⟨_, e2⟩
    · cases h2 : fetch8 s1 with
      | error r => rw [h2] at h; cases h
      | ok r2 =>
        obtain ⟨b1, s2⟩ := r2
        have e2 := h8 h2
        rw [h2] at h
        simp only at h
        cases h3 : fetch8 s2 with
        | error r => rw [h3] at h; cases h
        | ok r3 =>
          obtain ⟨b2, s3⟩ := r3
          have e3 := h8 h3
          rw [h3] at h; cases h
          subst e1; subst e2; exact ⟨_, e3⟩

/-- A tick of the DMA sequencer does nothing, only counts, or copies and turns off (R287). -/
theorem dmaTick_cases (s : State) (c : Nat) :
    (s.dma.mode = .off ∧ dmaTick s c = .ok s) ∨
    (∃ m, dmaTick s c = .ok { s with dma := { s.dma with mode := m, elapsed := s.dma.elapsed + c } } ∧ s.dma.mode ≠ .off ∧
      m ≠ .off ∧ (1 ≤ s.dma.elapsed + c → m = .transferring) ∧ s.dma.elapsed + c < 160) ∨
    (s.dma.mode ≠ .off ∧ 160 ≤ s.dma.elapsed + c ∧ dmaTick s c =
      match dmaCopy (List.range Config.dmaBytes) { s with dma := { s.dma with mode := .transferring, elapsed := s.dma.elapsed + c } } with
      | .ok u => .ok { u with dma := { u.dma with mode := .off } }
      | .error r => .error r) := by
  have on : s.dma.mode ≠ .off → _ := fun h => show dmaTick s c =
      (let m' := if s.dma.mode = .waiting ∧ s.dma.elapsed + c < 1 then DmaMode.waiting else .transferring
       if m' = .transferring ∧ Config.dmaCycles ≤ s.dma.elapsed + c then
        match dmaCopy (List.range Config.dmaBytes) { s with dma := { s.dma with elapsed := s.dma.elapsed + c, mode := m' } } with
        | .ok u => .ok { u with dma := { u.dma with mode := .off } }
        | .error r => .error r
       else .ok { s with dma := { s.dma with elapsed := s.dma.elapsed + c, mode := m' } }) by
    unfold dmaTick
    cases hm : s.dma.mode
    · exact absurd hm h
    · rfl
    · rfl
  by_cases h : s.dma.mode = .off
  · exact .inl ⟨h, by unfold dmaTick; rw [h]⟩
  right
  rw [on h]
  simp only [show Config.dmaCycles = 160 from rfl]
  by_cases hw : s.dma.mode = .waiting ∧ s.dma.elapsed + c < 1
  · rw [if_pos hw, if_neg (by simp)]
    exact .inl ⟨.waiting, rfl, h, by simp, fun h1 => by omega, by omega⟩
  · rw [if_neg hw]
    by_cases he : 160 ≤ s.dma.elapsed + c
    · rw [if_pos ⟨rfl, he⟩]; exact .inr ⟨h, he, rfl⟩
    · rw [if_neg (by simp [he])]
      exact .inl ⟨.transferring, rfl, h, by simp, fun _ => rfl, by omega⟩

section Kept

variable {P : State → Prop} (K : Kept P) {s t : State}
include K

theorem Kept.withCpu (p : Cpu) (hf : s.cpu.f &&& 0x0F#8 = 0#8 → p.f &&& 0x0F#8 = 0#8) (h : P s) : P { s with cpu := p } :=
  K.cpu s p s.cost s.cycles hf h

theorem Kept.effect {l : List Word} (e : Effect s l t) (h : P s) : P t := by
  induction e with
  | cpu s p n hf => exact K.cpu s p n s.cycles hf h
  | store hw _ ih => exact ih (K.write _ _ _ _ hw h)
  | move p hf _ ih => exact ih (K.withCpu p hf h)

/-- Every instruction keeps the property. -/
theorem Kept.exec {i : Instr} (e : exec i s = .next t) (h : P s) : P t := K.effect (exec_effect e) h

theorem Kept.push16 {v : Word} (e : push16 s v = .ok t) (h : P s) : P t := by
  unfold Machine.push16 at e
  cases h1 : push8 s (hiByte v) with
  | error r => rw [h1] at e; cases e
  | ok u =>
    rw [h1] at e
    have hu : P u := K.write _ _ _ _ h1 (K.withCpu _ (fun h => h) h)
    exact K.write _ _ _ _ e (K.withCpu _ (fun h => h) hu)

theorem Kept.dmaCopy (l : List Nat) (e : dmaCopy l s = .ok t) (h : P s) : P t := by
  induction l generalizing s with
  | nil => cases e; exact h
  | cons i l ih =>
    simp only [Machine.dmaCopy] at e
    cases h1 : memRead s (dmaAddr s i) with
    | error r => rw [h1] at e; cases e
    | ok v => rw [h1] at e; exact ih e (K.oam s i v h)

theorem Kept.dmaTick {c : Nat} (e : dmaTick s c = .ok t) (h : P s) : P t := by
  rcases dmaTick_cases s c with ⟨_, h1⟩ | ⟨m, h1, _⟩ | ⟨_, _, h1⟩ <;> rw [h1] at e
  · cases e; exact h
  · cases e; exact K.dma s m _ h
  · cases hu : Machine.dmaCopy (List.range Config.dmaBytes)
        { s with dma := { s.dma with mode := .transferring, elapsed := s.dma.elapsed + c } } with
    | error r => rw [hu] at e; cases e
    | ok u => rw [hu] at e; cases e; exact K.dma u .off u.dma.elapsed (K.dmaCopy _ hu (K.dma s _ _ h))

theorem Kept.ppuTick (n : Nat) (h : P s) : P (s.ppuTick n) := by
  have e : s.ppuTick n = { s with ppu := (s.ppu.advance s.params.screen s.ram n).1.statEval.1, irq := (s.ppuTick n).irq } := by
    simp only [State.ppuTick, State.statEval, State.requestIf]
    split <;> split <;> rfl
  rw [e]; exact K.ppu s n _ h

theorem Kept.timerTick (n : Nat) (h : P s) : P (s.timerTick n) := by
  have e : s.timerTick n = { s with timer := (s.timer.tick n).1, irq := (s.timerTick n).irq } := by
    simp only [State.timerTick, State.requestIf]
    split <;> rfl
  rw [e]; exact K.timer s _ _ h

theorem Kept.interruptHalf (e : interruptHalf s = .next t) (h : P s) : P t := by
  have hw : P s.wake := by
    unfold State.wake; split
    · exact K.withCpu _ (fun h => h) h
    · exact h
  unfold Machine.interruptHalf at e
  split at e
  · split at e
    · unfold takeInterrupt at e
      obtain ⟨u, hu, e⟩ := onOk_next_iff.1 e
      cases e
      have := K.push16 hu (K.withCpu _ (fun h => h) hw)
      exact K.withCpu (s := { u with irq := _ }) _ (fun h => h) (K.timer u u.timer _ this)
    · cases e; exact hw
  · cases e; exact hw

theorem Kept.finishStep {pen : Nat} (e : finishStep pen s = .next t) (h : P s) : P t := by
  unfold Machine.finishStep at e
  obtain ⟨u, hu, e⟩ := onOk_next_iff.1 e
  unfold advanceDevices at hu
  split at hu
  · rename_i w hw
    cases hu
    exact K.interruptHalf e (K.ppuTick _ (K.dmaTick hw (K.timerTick _ (K.cpu s s.cpu s.cost _ (fun h => h) h))))
  · cases hu

/-- Every step keeps the property. -/
theorem Kept.step (e : step s = .next t) (h : P s) : P t := by
  unfold Machine.step at e
  obtain ⟨u, hu, e⟩ := thenDo_next_iff.1 e
  refine K.finishStep e ?_
  have hb : P (beginStep s) := K.withCpu _ (fun h => h) h
  unfold runInstr at hu
  split at hu
  · exact K.exec hu hb
  · obtain ⟨r, hr, hu⟩ := onOk_next_iff.1 hu
    obtain ⟨i, w⟩ := r
    obtain ⟨pc, rfl⟩ := fetchInstr_state hr
    exact K.exec hu (K.withCpu (s := beginStep s) _ (fun h => h) hb)

end Kept

/-! ## What decides a refusal -/

/-- What the reasons of a refusal look at survives a move. -/
def KeptRefusal (s t : State) : Prop := ∀ o, Refused t o → Refused s o

theorem refused_same {s t : State} (h1 : t.cart = s.cart) : KeptRefusal s t := fun o r => by
  unfold Refused at *; rw [h1] at r; exact r

theorem refused_trans {s t u : State} (h1 : KeptRefusal s t) (h2 : KeptRefusal t u) : KeptRefusal s u :=
  fun o r => h1 o (h2 o r)

/-- A move of the machine brings no new reason to refuse. -/
theorem keptRefusal (s0 : State) : Kept (KeptRefusal s0) where
  cpu _ _ _ _ _ h := refused_trans h (refused_same rfl)
  write _ _ _ _ hw h := refused_trans h fun _ r => refused_before_write hw r
  timer _ _ _ h := refused_trans h (refused_same rfl)
  dma _ _ _ h := refused_trans h (refused_same rfl)
  oam _ _ _ h := refused_trans h (refused_same rfl)
  ppu _ _ _ h := refused_trans h (refused_same rfl)

/-- The outcome of a bus access as an outcome: answered, or refused for one of the two reasons. -/
def Answered {α : Type} (s : State) (e : Except Refusal α) : Prop := (∃ x, e = .ok x) ∨ ∃ r, e = .error r ∧ Refused s (.refused r)

theorem answered_read (s : State) (a : Word) : Answered s (memRead s a) := by
  cases h : memRead s a with
  | ok v => exact .inl ⟨v, rfl⟩
  | error r => exact .inr ⟨r, rfl, refused_of_read h⟩

theorem answered_write (s : State) (a : Word) (v : Byte) : Answered s (memWrite s a v) := by
  cases h : memWrite s a v with
  | ok t => exact .inl ⟨t, rfl⟩
  | error r => exact .inr ⟨r, rfl, refused_of_write h⟩

theorem answered_fetch8 (s : State) : Answered s (fetch8 s) := by
  unfold fetch8
  rcases answered_read s s.cpu.pc with ⟨v, h⟩ | ⟨r, h, hr⟩
  · rw [h]; exact .inl ⟨_, rfl⟩
  · rw [h]; exact .inr ⟨r, rfl, hr⟩

theorem answered_fetchInstr (s : State) : Answered s (fetchInstr s) := by
  have step8 : ∀ u : State, u.cart = s.cart → Answered s (fetch8 u) ∧ ∀ v w, fetch8 u = .ok (v, w) → w.cart = s.cart := by
    intro u hu
    constructor
    · rcases answered_fetch8 u with h | ⟨r, h, hr⟩
      · exact .inl h
      · exact .inr ⟨r, h, refused_same hu _ hr⟩
    · intro v w h
      unfold fetch8 at h
      cases hm : memRead u u.cpu.pc with
      | error r => rw [hm] at h; cases h
      | ok x => rw [hm] at h; cases h; exact hu
  unfold fetchInstr
  obtain ⟨a1, c1⟩ := step8 s rfl
  rcases a1 with ⟨⟨b0, s1⟩, h1⟩ | ⟨r, h1, hr⟩
  · rw [h1]
    obtain ⟨a2, c2⟩ := step8 s1 (c1 _ _ h1)
    simp only
    split
    · exact .inl ⟨_, rfl⟩
    · rcases a2 with ⟨⟨b1, s2⟩, h2⟩ | ⟨r, h2, hr⟩
      · rw [h2]; exact .inl ⟨_, rfl⟩
      · rw [h2]; exact .inr ⟨r, rfl, hr⟩
    · rcases a2 with ⟨⟨b1, s2⟩, h2⟩ | ⟨r, h2, hr⟩
      · rw [h2]
        obtain ⟨a3, _⟩ := step8 s2 (c2 _ _ h2)
        simp only
        rcases a3 with ⟨⟨b2, s3⟩, h3⟩ | ⟨r, h3, hr⟩
        · rw [h3]; exact .inl ⟨_, rfl⟩
        · rw [h3]; exact .inr ⟨r, rfl, hr⟩
      · rw [h2]; exact .inr ⟨r, rfl, hr⟩
  · rw [h1]; exact .inr ⟨r, rfl, hr⟩

theorem answered_push16 (s : State) (v : Word) : Answered s (push16 s v) := by
  rw [push16_eq]
  rcases answered_write s (s.cpu.sp - 1#16) (hiByte v) with ⟨u, h⟩ | ⟨r, h, hr⟩
  · rw [h]
    simp only
    rcases answered_write u (s.cpu.sp - 2#16) (loByte v) with ⟨t, h'⟩ | ⟨r, h', hr⟩
    · rw [h']; exact .inl ⟨_, rfl⟩
    · rw [h']; exact .inr ⟨r, rfl, refused_before_write h hr⟩
  · rw [h]; exact .inr ⟨r, rfl, hr⟩

theorem answered_dmaCopy (l : List Nat) (s : State) : Answered s (dmaCopy l s) := by
  induction l generalizing s with
  | nil => exact .inl ⟨s, rfl⟩
  | cons i l ih =>
    simp only [dmaCopy]
    rcases answered_read s (dmaAddr s i) with ⟨v, h⟩ | ⟨r, h, hr⟩
    · rw [h]
      rcases ih (s.setOam i v) with h' | ⟨r, h', hr⟩
      · exact .inl h'
      · exact .inr ⟨r, h', refused_same rfl _ hr⟩
    · rw [h]; exact .inr ⟨r, rfl, hr⟩

theorem answered_dmaTick (s : State) (c : Nat) : Answered s (dmaTick s c) := by
  rcases dmaTick_cases s c with ⟨_, h1⟩ | ⟨m, h1, _⟩ | ⟨_, _, h1⟩ <;> rw [h1]
  · exact .inl ⟨_, rfl⟩
  · exact .inl ⟨_, rfl⟩
  · rcases answered_dmaCopy (List.range Config.dmaBytes)
        { s with dma := { s.dma with mode := .transferring, elapsed := s.dma.elapsed + c } } with ⟨u, h⟩ | ⟨r, h, hr⟩
    · rw [h]; exact .inl ⟨_, rfl⟩
    · rw [h]; exact .inr ⟨r, rfl, refused_same rfl _ hr⟩

theorem answered_advance (s : State) (c : Nat) : Answered s (advanceDevices s c) := by
  unfold advanceDevices
  rcases answered_dmaTick (s.timerTick (s.params.tickScale * c)) c with ⟨u, h⟩ | ⟨r, h, hr⟩
  · rw [h]; exact .inl ⟨_, rfl⟩
  · rw [h]; exact .inr ⟨r, rfl, refused_same (by simp) _ hr⟩

/-- An outcome that is a next state or one of the two refusals. -/
def Stops (s : State) (o : Out) : Prop := (∃ t, o = .next t) ∨ Refused s o

theorem stops_onOk {α : Type} {s : State} {e : Except Refusal α} {k : α → Out} (h : Answered s e)
    (hk : ∀ x, e = .ok x → Stops s (k x)) : Stops s (onOk e k) := by
  rcases h with ⟨x, h⟩ | ⟨r, h, hr⟩
  · rw [h]; exact hk x h
  · rw [h]; exact .inr hr

theorem wake_cart (s : State) : s.wake.cart = s.cart := by unfold State.wake; split <;> rfl

theorem stops_interruptHalf (s : State) : Stops s (interruptHalf s) := by
  unfold interruptHalf
  split
  · split
    · unfold takeInterrupt
      refine stops_onOk ?_ fun x _ => .inl ⟨_, rfl⟩
      rcases answered_push16 (s.wake.setIme false) s.wake.cpu.pc with h | ⟨r, h, hr⟩
      · exact .inl h
      · exact .inr ⟨r, h, refused_same (wake_cart s) _ hr⟩
    · exact .inl ⟨_, rfl⟩
  · exact .inl ⟨_, rfl⟩

theorem stops_finishStep (s : State) (pen : Nat) : Stops s (finishStep pen s) := by
  unfold finishStep
  refine stops_onOk ?_ fun u hu => ?_
  · rcases answered_advance { s with cycles := s.cost + pen } (s.cost + pen) with h | ⟨r, h, hr⟩
    · exact .inl h
    · exact .inr ⟨r, h, refused_same rfl _ hr⟩
  · rcases stops_interruptHalf u with h | hr
    · exact .inl h
    · refine .inr ?_
      unfold advanceDevices at hu
      split at hu
      · rename_i w hw
        cases hu
        have K := keptRefusal { s with cycles := s.cost + pen }
        have h0 : KeptRefusal { s with cycles := s.cost + pen } { s with cycles := s.cost + pen } := fun _ r => r
        exact refused_same rfl _ (K.ppuTick _ (K.dmaTick hw (K.timerTick _ h0)) _ hr)
      · cases hu

/-- A step has a next state, or is refused for one of the two reasons that the cartridge gives. -/
theorem step_answer (s : State) : Stops s (step s) := by
  unfold step
  have hrun : Stops s (runInstr (beginStep s)) := by
    unfold runInstr
    have ex : ∀ i (u : State), u.cart = s.cart → Stops s (exec i u) := by
      intro i u hu
      rcases exec_answer i u with ⟨t, h, _⟩ | hr
      · exact .inl ⟨t, h⟩
      · exact .inr (refused_same hu _ hr)
    split
    · exact ex _ _ rfl
    · refine stops_onOk ?_ fun r hr => ?_
      · rcases answered_fetchInstr (beginStep s) with h | ⟨r, h, hr⟩
        · exact .inl h
        · exact .inr ⟨r, h, refused_same rfl _ hr⟩
      · obtain ⟨i, w⟩ := r
        obtain ⟨pc, rfl⟩ := fetchInstr_state hr
        exact ex _ _ rfl
  rcases hrun with ⟨u, hu⟩ | hr
  · rw [hu]
    rcases stops_finishStep u (penalty s) with h | hr
    · exact .inl h
    · refine .inr ?_
      have K := keptRefusal s
      have h0 : KeptRefusal s (beginStep s) := refused_same rfl
      unfold runInstr at hu
      split at hu
      · exact K.exec hu h0 _ hr
      · obtain ⟨r, hr', hu⟩ := onOk_next_iff.1 hu
        obtain ⟨i, w⟩ := r
        obtain ⟨pc, rfl⟩ := fetchInstr_state hr'
        exact K.exec hu (K.withCpu (s := beginStep s) _ (fun h => h) h0) _ hr
  · rcases hr with ⟨h, r⟩ | ⟨h, r⟩
    · rw [h]; exact .inr (.inl ⟨rfl, r⟩)
    · rw [h]; exact .inr (.inr ⟨rfl, r⟩)

end Sys2Proof.Machine
end

