-- ==== Sys2Proof/Tests/Slice0.lean ====
section
/-! SUPPORT. The tests. The words are written out from the encoding tables of `30_encoding.md` and the rules' encoding lines;
the expected results are the worked examples of the rules and the vectors of `95_test_vectors.md`, named with each test.
The `test_witness_` theorems show, for every statement with hypotheses, a state and operands that meet them together. -/

namespace Sys2Proof.Tests

open Sys2Proof.Machine

/-! ## Well-formedness: the one check, and a term it refuses -/

theorem test_wellFormed_refuses_prefix : wellFormed (.prefixCB 0x37#8) = false := by decide
theorem test_wellFormed_accepts : wellFormed .swapA = true ∧ wellFormed (.ldBC_d16 0xFFFF#16) = true := by decide

/-! ## Decoding: every word of every form, its fields written out (R91, R95 to R99) -/

theorem test_decode_loadReg (y z : Reg) : decode [0b01#2 ++ y.code ++ z.code] = .ok (Form.loadReg y z, []) := by
  cases y <;> cases z <;> rfl
theorem test_decode_loadImm (y : Reg) (d : Byte) : decode [0b00#2 ++ y.code ++ 0b110#3, d] = .ok (Form.loadImm y d, []) := by
  cases y <;> rfl
theorem test_decode_loadAtHL (y : Reg) : decode [0b01#2 ++ y.code ++ 0b110#3] = .ok (Form.loadAtHL y, []) := by
  cases y <;> rfl
theorem test_decode_storeAtHL (z : Reg) : decode [0b01_110#5 ++ z.code] = .ok (Form.storeAtHL z, []) := by
  cases z <;> rfl
theorem test_decode_loadPair (p : Pair) (lo hi : Byte) :
    decode [0b00#2 ++ p.code ++ 0b0001#4, lo, hi] = .ok (Form.loadPair p (word hi lo), []) := by
  cases p <;> rfl
theorem test_decode_alu (op : AluOp) (z : Reg) (d : Byte) :
    decode [0b10#2 ++ op.code ++ z.code] = .ok (Form.alu op (.reg z), []) ∧
    decode [0b10#2 ++ op.code ++ 0b110#3] = .ok (Form.alu op .mem, []) ∧
    decode [0b11#2 ++ op.code ++ 0b110#3, d] = .ok (Form.alu op (.imm d), []) := by
  cases op <;> exact ⟨by cases z <;> rfl, rfl, rfl⟩
theorem test_decode_incDec (y : Reg) :
    decode [0b00#2 ++ y.code ++ 0b100#3] = .ok (Form.incReg y, []) ∧
    decode [0b00#2 ++ y.code ++ 0b101#3] = .ok (Form.decReg y, []) := by
  cases y <;> exact ⟨rfl, rfl⟩
theorem test_decode_pairs (p : Pair) :
    decode [0b00#2 ++ p.code ++ 0b0011#4] = .ok (Form.incPair p, []) ∧
    decode [0b00#2 ++ p.code ++ 0b1011#4] = .ok (Form.decPair p, []) ∧
    decode [0b00#2 ++ p.code ++ 0b1001#4] = .ok (Form.addHL p, []) := by
  cases p <;> exact ⟨rfl, rfl, rfl⟩
theorem test_decode_stack (p : StackPair) :
    decode [0b11#2 ++ p.code ++ 0b0101#4] = .ok (Form.push p, []) ∧
    decode [0b11#2 ++ p.code ++ 0b0001#4] = .ok (Form.pop p, []) := by
  cases p <;> exact ⟨rfl, rfl⟩
theorem test_decode_conditional (cc : Cond) (lo hi : Byte) :
    decode [0b110#3 ++ cc.code ++ 0b010#3, lo, hi] = .ok (Form.jumpIf cc (word hi lo), []) ∧
    decode [0b110#3 ++ cc.code ++ 0b100#3, lo, hi] = .ok (Form.callIf cc (word hi lo), []) ∧
    decode [0b110#3 ++ cc.code ++ 0b000#3] = .ok (Form.retIf cc, []) ∧
    decode [0b001#3 ++ cc.code ++ 0b000#3, lo] = .ok (Form.jumpRelativeIf cc lo, []) := by
  cases cc <;> exact ⟨rfl, rfl, rfl, rfl⟩
theorem test_decode_restart (y : BitNo) : decode [0b11#2 ++ y.code ++ 0b111#3] = .ok (Form.restart y, []) := by
  cases y <;> rfl
theorem test_decode_rotate (op : RotOp) (o : Operand8) :
    decode [0xCB#8, 0b00#2 ++ op.code ++ o.code] = .ok (Form.rotate op o, []) := by
  cases op <;> rcases o with r | _ <;> first | rfl | (cases r <;> rfl)
theorem test_decode_bit (n : BitNo) (o : Operand8) :
    decode [0xCB#8, 0b01#2 ++ n.code ++ o.code] = .ok (Form.bit n o, []) := by
  cases n <;> rcases o with r | _ <;> first | rfl | (cases r <;> rfl)
theorem test_decode_res (n : BitNo) (o : Operand8) :
    decode [0xCB#8, 0b10#2 ++ n.code ++ o.code] = .ok (Form.res n o, []) := by
  cases n <;> rcases o with r | _ <;> first | rfl | (cases r <;> rfl)
theorem test_decode_set (n : BitNo) (o : Operand8) :
    decode [0xCB#8, 0b11#2 ++ n.code ++ o.code] = .ok (Form.set n o, []) := by
  cases n <;> rcases o with r | _ <;> first | rfl | (cases r <;> rfl)

/-- The words that no field form covers (R95, R98). -/
theorem test_decode_single (d lo hi : Byte) :
    [decode [0x00#8], decode [0x02#8], decode [0x07#8], decode [0x0A#8], decode [0x0F#8], decode [0x10#8], decode [0x12#8],
     decode [0x17#8], decode [0x1A#8], decode [0x1F#8], decode [0x22#8], decode [0x27#8], decode [0x2A#8], decode [0x2F#8],
     decode [0x32#8], decode [0x34#8], decode [0x35#8], decode [0x37#8], decode [0x3A#8], decode [0x3F#8], decode [0x76#8],
     decode [0xC9#8], decode [0xD9#8], decode [0xE2#8], decode [0xE9#8], decode [0xF2#8], decode [0xF3#8], decode [0xF9#8],
     decode [0xFB#8]] =
    [.nop, .ldMBC_A, .rlca, .ldA_MBC, .rrca, .stop, .ldMDE_A, .rla, .ldA_MDE, .rra, .ldMHLInc_A, .daa, .ldA_MHLInc, .cpl,
     .ldMHLDec_A, .incMHL, .decMHL, .scf, .ldA_MHLDec, .ccf, .halt, .ret, .reti, .ldMC_A, .jpHL, .ldA_MC, .di, .ldSP_HL,
     .ei].map (fun i => .ok (i, [])) ∧
    [decode [0x18#8, d], decode [0x36#8, d], decode [0xE0#8, d], decode [0xE8#8, d], decode [0xF0#8, d], decode [0xF8#8, d]] =
    [.jr_e8 d, .ldMHL_d8 d, .ldhMa8_A d, .addSP_e8 d, .ldhA_Ma8 d, .ldHL_SPe8 d].map (fun i => .ok (i, [])) ∧
    [decode [0x08#8, lo, hi], decode [0xC3#8, lo, hi], decode [0xCD#8, lo, hi], decode [0xEA#8, lo, hi],
     decode [0xFA#8, lo, hi]] =
    [.ldMa16_SP (word hi lo), .jp_a16 (word hi lo), .call_a16 (word hi lo), .ldMa16_A (word hi lo),
     .ldA_Ma16 (word hi lo)].map (fun i => .ok (i, [])) := ⟨rfl, rfl, rfl⟩

/-- The eleven undefined opcodes are instructions of their own (R251). -/
theorem test_decode_undefined :
    Form.undefinedOpcodes.map Prod.fst = [0xD3, 0xDB, 0xDD, 0xE3, 0xE4, 0xEB, 0xEC, 0xED, 0xF4, 0xFC, 0xFD] ∧
    ∀ e ∈ Form.undefinedOpcodes, decode [BitVec.ofNat 8 e.1] = .ok (e.2, []) := by decide

/-- A string shorter than its first byte asks for is refused by name; the bytes past the instruction are left. -/
theorem test_decode_lengths :
    decode [] = .error .truncated ∧ decode [0x01#8, 0x34#8] = .error .truncated ∧ decode [0xCB#8] = .error .truncated ∧
    decode [0x01#8, 0x34#8, 0x12#8, 0xC9#8] = .ok (.ldBC_d16 0x1234#16, [0xC9#8]) := by decide

/-! ## One instruction at a time -/

/-- Registers of a test: zero but `SP` and `PC` (`95_test_vectors.md`, conventions). -/
def zero : Cpu :=
  { a := 0, f := 0, b := 0, c := 0, d := 0, e := 0, h := 0, l := 0, sp := 0xDFF0, pc := 0xC000, ime := false
    mode := .running, serviced := false }

/-- A memory with the given bytes. -/
def put (l : List (Nat × Byte)) (m : Memory) : Memory := l.foldl (fun m c => m.write c.1 c.2) m

/-- A state with the code at `PC` and the given RAM bytes. -/
def start (code : List Byte) (p : Cpu) (mem : List (Nat × Byte)) : State :=
  { State.reset with cpu := p, irq := ⟨0, 0⟩, ram := put mem (put (code.mapIdx fun i b => (p.pc.toNat + i, b)) []) }

/-- What `f` sees of the next state. -/
def see {α : Type} (o : Out) (f : State → α) : Option α :=
  match o with
  | .next t => some (f t)
  | _ => none

/-- Fetch and execute one instruction, with no subsystem tick and no interrupt half. -/
def run (s : State) : Out := onOk (fetchInstr s) fun r => exec r.1 r.2

/-- The byte the bus returns. -/
def byteAt (s : State) (a : Word) : Option Byte := (memRead s a).toOption

/-- R110. -/
theorem test_LD_B_C :
    see (run (start [0x41#8] { zero with b := 0x12, c := 0x34 } [])) (fun t => (t.cpu.b, t.cpu.c, t.cpu.f, t.cost)) =
      some (0x34#8, 0x34#8, 0x00#8, 1) := by decide

/-- R111. -/
theorem test_LD_A_d8 :
    see (run (start [0x3E#8, 0x7F#8] zero [])) (fun t => (t.cpu.a, t.cpu.pc, t.cost)) =
      some (0x7F#8, 0xC002#16, 2) := by decide

/-- R112. -/
theorem test_LD_B_MHL :
    see (run (start [0x46#8] { zero with h := 0xC0, l := 0x50 } [(0xC050, 0x5A#8)])) (fun t => (t.cpu.b, t.cpu.h, t.cost)) =
      some (0x5A#8, 0xC0#8, 2) := by decide

/-- R113. -/
theorem test_LD_MHL_A :
    see (run (start [0x77#8] { zero with a := 0x99, h := 0xC0, l := 0x10 } [])) (fun t => (byteAt t 0xC010, t.cpu.a, t.cost)) =
      some (some 0x99#8, 0x99#8, 2) := by decide

/-- R114, corner case: HL at the operand byte. -/
theorem test_LD_MHL_d8 :
    see (run (start [0x36#8, 0xAB#8] { zero with h := 0xC0, l := 0x01 } [])) (fun t => (byteAt t 0xC001, t.cpu.pc, t.cost)) =
      some (some 0xAB#8, 0xC002#16, 3) := by decide

/-- R115. -/
theorem test_LD_A_MBC :
    see (run (start [0x0A#8] { zero with b := 0xC1, c := 0x01 } [(0xC101, 0x11#8)])) (fun t => (t.cpu.a, t.cost)) =
      some (0x11#8, 2) := by decide

/-- R116. -/
theorem test_LD_A_MDE :
    see (run (start [0x1A#8] { zero with d := 0xC1, e := 0x02 } [(0xC102, 0x22#8)])) (fun t => (t.cpu.a, t.cost)) =
      some (0x22#8, 2) := by decide

/-- R117. -/
theorem test_LD_MBC_A :
    see (run (start [0x02#8] { zero with a := 0x33, b := 0xC1, c := 0x03 } [])) (fun t => (byteAt t 0xC103, t.cost)) =
      some (some 0x33#8, 2) := by decide

/-- R118. -/
theorem test_LD_MDE_A :
    see (run (start [0x12#8] { zero with a := 0x44, d := 0xC1, e := 0x04 } [])) (fun t => (byteAt t 0xC104, t.cost)) =
      some (some 0x44#8, 2) := by decide

/-- R119, corner case: HL wraps from IE. -/
theorem test_LD_A_MHLInc :
    see (run (start [0x2A#8] { zero with h := 0xFF, l := 0xFF, a := 0x77 } [])) (fun t => (t.cpu.a, t.cpu.pair .hl, t.cost)) =
      some (0x00#8, 0x0000#16, 2) := by decide

/-- R120. -/
theorem test_LD_A_MHLDec :
    see (run (start [0x3A#8] { zero with h := 0xC1, l := 0x01 } [(0xC101, 0x02#8)])) (fun t => (t.cpu.a, t.cpu.pair .hl)) =
      some (0x02#8, 0xC100#16) := by decide

/-- R121. -/
theorem test_LD_MHLInc_A :
    see (run (start [0x22#8] { zero with a := 0x77, h := 0xC1, l := 0xFF } [])) (fun t => (byteAt t 0xC1FF, t.cpu.pair .hl)) =
      some (some 0x77#8, 0xC200#16) := by decide

/-- R122, corner case: HL wraps to 0xFFFF, the ROM write is dropped. -/
theorem test_LD_MHLDec_A :
    see (run (start [0x32#8] { zero with a := 0x88 } [])) (fun t => (byteAt t 0x0000, t.cpu.pair .hl)) =
      some (some 0x00#8, 0xFFFF#16) := by decide

/-- R123. -/
theorem test_LD_A_Ma16 :
    see (run (start [0xFA#8, 0x00#8, 0xC1#8] zero [(0xC100, 0x5C#8)])) (fun t => (t.cpu.a, t.cpu.pc, t.cost)) =
      some (0x5C#8, 0xC003#16, 4) := by decide

/-- R124. -/
theorem test_LD_Ma16_A :
    see (run (start [0xEA#8, 0x34#8, 0xC1#8] { zero with a := 0x5C } [])) (fun t => (byteAt t 0xC134, t.cost)) =
      some (some 0x5C#8, 4) := by decide

/-- R126: LY at reset. -/
theorem test_LDH_A_Ma8 :
    see (run (start [0xF0#8, 0x44#8] { zero with a := 0x77 } [])) (fun t => (t.cpu.a, t.cost)) =
      some (0x00#8, 3) := by decide

/-- R127 and S8: the DMA trigger. -/
theorem test_LDH_Ma8_A :
    see (run (start [0xE0#8, 0x46#8] { zero with a := 0xC0 } [])) (fun t => (t.dma, t.cost)) =
      some (⟨.waiting, 0, 0xC000#16⟩, 3) := by decide

/-- R128: P1 with no group selected. -/
theorem test_LD_A_MC :
    see (run (start [0xF2#8] zero [])) (fun t => (t.cpu.a, t.cost)) =
      some (0xFF#8, 2) := by decide

/-- R129. -/
theorem test_LD_MC_A :
    see (run (start [0xE2#8] { zero with a := 0x12, c := 0x80 } [])) (fun t => (byteAt t 0xFF80, t.cost)) =
      some (some 0x12#8, 2) := by decide

/-- R140, the source's own example. -/
theorem test_LD_BC_d16 :
    see (run (start [0x01#8, 0x34#8, 0x12#8] zero [])) (fun t => (t.cpu.b, t.cpu.c, t.cpu.pc, t.cost)) =
      some (0x12#8, 0x34#8, 0xC003#16, 3) := by decide

/-- R141. -/
theorem test_LD_Ma16_SP :
    see (run (start [0x08#8, 0x00#8, 0xC1#8] { zero with sp := 0xFFF8 } [])) (fun t => (byteAt t 0xC100, byteAt t 0xC101, t.cpu.sp, t.cost)) =
      some (some 0xF8#8, some 0xFF#8, 0xFFF8#16, 5) := by decide

/-- R142. -/
theorem test_LD_SP_HL :
    see (run (start [0xF9#8] { zero with h := 0xD0 } [])) (fun t => (t.cpu.sp, t.cost)) =
      some (0xD000#16, 2) := by decide

/-- R143. -/
theorem test_PUSH_BC :
    see (run (start [0xC5#8] { zero with b := 0x12, c := 0x34, sp := 0xFFFE } [])) (fun t => (byteAt t 0xFFFD, byteAt t 0xFFFC, t.cpu.sp, t.cost)) =
      some (some 0x12#8, some 0x34#8, 0xFFFC#16, 4) := by decide

/-- S2, second line. -/
theorem test_PUSH_AF :
    see (run (start [0xF5#8] { zero with a := 0xAB, f := 0xB0, sp := 0xFFFE } [])) (fun t => (byteAt t 0xFFFD, byteAt t 0xFFFC)) =
      some (some 0xAB#8, some 0xB0#8) := by decide

/-- R144. -/
theorem test_POP_DE :
    see (run (start [0xD1#8] { zero with sp := 0xFFFC } [(0xFFFC, 0x34#8), (0xFFFD, 0x12#8)])) (fun t => (t.cpu.pair .de, t.cpu.sp, t.cost)) =
      some (0x1234#16, 0xFFFE#16, 3) := by decide

/-- S2, third line: F loses its low nibble. -/
theorem test_POP_AF :
    see (run (start [0xF1#8] { zero with sp := 0xC0FE } [(0xC0FE, 0xFF#8), (0xC0FF, 0x12#8)])) (fun t => (t.cpu.a, t.cpu.f, t.cpu.sp)) =
      some (0x12#8, 0xF0#8, 0xC100#16) := by decide

/-- R157. -/
theorem test_ADD_A_B :
    see (run (start [0x80#8] { zero with a := 0x3A, b := 0xC6 } [])) (fun t => (t.cpu.a, t.cpu.f, t.cpu.pc, t.cost)) =
      some (0x00#8, 0xB0#8, 0xC001#16, 1) := by decide

/-- R158. -/
theorem test_ADC_A_E :
    see (run (start [0x8B#8] { zero with a := 0xE1, e := 0x0F, f := 0x10 } [])) (fun t => (t.cpu.a, t.cpu.f)) =
      some (0xF1#8, 0x20#8) := by decide

/-- R159. -/
theorem test_SUB_A_E :
    see (run (start [0x93#8] { zero with a := 0x3E, e := 0x3E } [])) (fun t => (t.cpu.a, t.cpu.f)) =
      some (0x00#8, 0xC0#8) := by decide

/-- R160. -/
theorem test_SBC_A_H :
    see (run (start [0x9C#8] { zero with a := 0x3B, h := 0x2A, f := 0x10 } [])) (fun t => (t.cpu.a, t.cpu.f)) =
      some (0x10#8, 0x40#8) := by decide

/-- R161. -/
theorem test_AND_A_L :
    see (run (start [0xA5#8] { zero with a := 0x5A, l := 0x3F, f := 0xF0 } [])) (fun t => (t.cpu.a, t.cpu.f)) =
      some (0x1A#8, 0x20#8) := by decide

/-- R162. -/
theorem test_XOR_A_d8 :
    see (run (start [0xEE#8, 0x0F#8] { zero with a := 0xFF, f := 0xF0 } [])) (fun t => (t.cpu.a, t.cpu.f, t.cost)) =
      some (0xF0#8, 0x00#8, 2) := by decide

/-- R163. -/
theorem test_OR_A_d8 :
    see (run (start [0xF6#8, 0x03#8] { zero with a := 0x5A, f := 0xF0 } [])) (fun t => (t.cpu.a, t.cpu.f)) =
      some (0x5B#8, 0x00#8) := by decide

/-- R164. -/
theorem test_CP_A_B :
    see (run (start [0xB8#8] { zero with a := 0x3C, b := 0x2F } [])) (fun t => (t.cpu.a, t.cpu.f)) =
      some (0x3C#8, 0x60#8) := by decide

/-- R156, R157. -/
theorem test_ADD_A_MHL :
    see (run (start [0x86#8] { zero with a := 0x0F, h := 0xC1 } [(0xC100, 0x01#8)])) (fun t => (t.cpu.a, t.cpu.f, t.cost)) =
      some (0x10#8, 0x20#8, 2) := by decide

/-- R165, S3: CF is kept. -/
theorem test_INC_A :
    see (run (start [0x3C#8] { zero with a := 0xFF, f := 0x10 } [])) (fun t => (t.cpu.a, t.cpu.f, t.cost)) =
      some (0x00#8, 0xB0#8, 1) := by decide

/-- R166. -/
theorem test_INC_MHL :
    see (run (start [0x34#8] { zero with h := 0xC1 } [(0xC100, 0x4F#8)])) (fun t => (byteAt t 0xC100, t.cpu.f, t.cost)) =
      some (some 0x50#8, 0x20#8, 3) := by decide

/-- R167. -/
theorem test_DEC_B :
    see (run (start [0x05#8] { zero with b := 0x10 } [])) (fun t => (t.cpu.b, t.cpu.f)) =
      some (0x0F#8, 0x60#8) := by decide

/-- R168. -/
theorem test_DEC_MHL :
    see (run (start [0x35#8] { zero with h := 0xC1 } [(0xC100, 0x01#8)])) (fun t => (byteAt t 0xC100, t.cpu.f, t.cost)) =
      some (some 0x00#8, 0xC0#8, 3) := by decide

/-- R169. -/
theorem test_DAA :
    see (run (start [0x27#8] { zero with a := 0x7D } [])) (fun t => (t.cpu.a, t.cpu.f)) =
      some (0x83#8, 0x00#8) := by decide

/-- R170. -/
theorem test_CPL :
    see (run (start [0x2F#8] { zero with a := 0x35, f := 0x90 } [])) (fun t => (t.cpu.a, t.cpu.f)) =
      some (0xCA#8, 0xF0#8) := by decide

/-- R171. -/
theorem test_SCF :
    see (run (start [0x37#8] zero [])) (fun t => (t.cpu.f)) =
      some (0x10#8) := by decide

/-- R172. -/
theorem test_CCF :
    see (run (start [0x3F#8] { zero with f := 0x90 } [])) (fun t => (t.cpu.f)) =
      some (0x80#8) := by decide

/-- R190. -/
theorem test_ADD_HL_BC :
    see (run (start [0x09#8] { zero with h := 0x8A, l := 0x23, b := 0x06, c := 0x05 } [])) (fun t => (t.cpu.pair .hl, t.cpu.f, t.cost)) =
      some (0x9028#16, 0x20#8, 2) := by decide

/-- R191. -/
theorem test_INC_DE :
    see (run (start [0x13#8] { zero with d := 0x23, e := 0x5F, f := 0xF0 } [])) (fun t => (t.cpu.pair .de, t.cpu.f, t.cost)) =
      some (0x2360#16, 0xF0#8, 2) := by decide

/-- R192. -/
theorem test_DEC_BC :
    see (run (start [0x0B#8] { zero with b := 0x01 } [])) (fun t => (t.cpu.pair .bc, t.cost)) =
      some (0x00FF#16, 2) := by decide

/-- R193. -/
theorem test_ADD_SP_e8 :
    see (run (start [0xE8#8, 0x02#8] { zero with sp := 0xFFF8, f := 0xF0 } [])) (fun t => (t.cpu.sp, t.cpu.f, t.cost)) =
      some (0xFFFA#16, 0x00#8, 4) := by decide

/-- R194: minus 8. -/
theorem test_LD_HL_SPe8 :
    see (run (start [0xF8#8, 0xF8#8] { zero with sp := 0xFFF8 } [])) (fun t => (t.cpu.pair .hl, t.cpu.f, t.cpu.sp, t.cost)) =
      some (0xFFF0#16, 0x30#8, 0xFFF8#16, 3) := by decide

/-- R200. -/
theorem test_RLCA :
    see (run (start [0x07#8] { zero with a := 0x85, f := 0xE0 } [])) (fun t => (t.cpu.a, t.cpu.f)) =
      some (0x0B#8, 0x10#8) := by decide

/-- R201. -/
theorem test_RRCA :
    see (run (start [0x0F#8] { zero with a := 0x3B } [])) (fun t => (t.cpu.a, t.cpu.f)) =
      some (0x9D#8, 0x10#8) := by decide

/-- R202. -/
theorem test_RLA :
    see (run (start [0x17#8] { zero with a := 0x95, f := 0x10 } [])) (fun t => (t.cpu.a, t.cpu.f)) =
      some (0x2B#8, 0x10#8) := by decide

/-- R203. -/
theorem test_RRA :
    see (run (start [0x1F#8] { zero with a := 0x81 } [])) (fun t => (t.cpu.a, t.cpu.f)) =
      some (0x40#8, 0x10#8) := by decide

/-- R205. -/
theorem test_RLC_B :
    see (run (start [0xCB#8, 0x00#8] { zero with b := 0x85 } [])) (fun t => (t.cpu.b, t.cpu.f, t.cost)) =
      some (0x0B#8, 0x10#8, 2) := by decide

/-- R206. -/
theorem test_RRC_C :
    see (run (start [0xCB#8, 0x09#8] { zero with c := 0x01 } [])) (fun t => (t.cpu.c, t.cpu.f, t.cost)) =
      some (0x80#8, 0x10#8, 2) := by decide

/-- R207. -/
theorem test_RL_L :
    see (run (start [0xCB#8, 0x15#8] { zero with l := 0x80 } [])) (fun t => (t.cpu.l, t.cpu.f, t.cost)) =
      some (0x00#8, 0x90#8, 2) := by decide

/-- R208. -/
theorem test_RR_A :
    see (run (start [0xCB#8, 0x1F#8] { zero with a := 0x01 } [])) (fun t => (t.cpu.a, t.cpu.f, t.cost)) =
      some (0x00#8, 0x90#8, 2) := by decide

/-- R209. -/
theorem test_SLA_D :
    see (run (start [0xCB#8, 0x22#8] { zero with d := 0x80 } [])) (fun t => (t.cpu.d, t.cpu.f, t.cost)) =
      some (0x00#8, 0x90#8, 2) := by decide

/-- R210. -/
theorem test_SRA_A :
    see (run (start [0xCB#8, 0x2F#8] { zero with a := 0x8A } [])) (fun t => (t.cpu.a, t.cpu.f, t.cost)) =
      some (0xC5#8, 0x00#8, 2) := by decide

/-- R211. -/
theorem test_SWAP_A :
    see (run (start [0xCB#8, 0x37#8] { zero with a := 0xF1, f := 0x10 } [])) (fun t => (t.cpu.a, t.cpu.f, t.cost)) =
      some (0x1F#8, 0x00#8, 2) := by decide

/-- R212. -/
theorem test_SRL_A :
    see (run (start [0xCB#8, 0x3F#8] { zero with a := 0xFF } [])) (fun t => (t.cpu.a, t.cpu.f, t.cost)) =
      some (0x7F#8, 0x10#8, 2) := by decide

/-- R213. -/
theorem test_BIT_7_A :
    see (run (start [0xCB#8, 0x7F#8] { zero with a := 0x80, f := 0xD0 } [])) (fun t => (t.cpu.a, t.cpu.f, t.cost)) =
      some (0x80#8, 0x30#8, 2) := by decide

/-- R213. -/
theorem test_BIT_4_L :
    see (run (start [0xCB#8, 0x65#8] { zero with l := 0xEF } [])) (fun t => (t.cpu.l, t.cpu.f)) =
      some (0xEF#8, 0xA0#8) := by decide

/-- R214. -/
theorem test_RES_7_A :
    see (run (start [0xCB#8, 0xBF#8] { zero with a := 0x80, f := 0x00 } [])) (fun t => (t.cpu.a, t.cpu.f)) =
      some (0x00#8, 0x00#8) := by decide

/-- R215. -/
theorem test_SET_3_MHL :
    see (run (start [0xCB#8, 0xDE#8] { zero with h := 0xC1 } [])) (fun t => (byteAt t 0xC100, t.cost)) =
      some (some 0x08#8, 4) := by decide

/-- R225. -/
theorem test_JP_a16 :
    see (run (start [0xC3#8, 0x50#8, 0x01#8] zero [])) (fun t => (t.cpu.pc, t.cost)) =
      some (0x0150#16, 4) := by decide

/-- R226. -/
theorem test_JP_Z_taken :
    see (run (start [0xCA#8, 0x00#8, 0x02#8] { zero with f := 0x80 } [])) (fun t => (t.cpu.pc, t.cost)) =
      some (0x0200#16, 4) := by decide

/-- R226. -/
theorem test_JP_Z_fails :
    see (run (start [0xCA#8, 0x00#8, 0x02#8] zero [])) (fun t => (t.cpu.pc, t.cost)) =
      some (0xC003#16, 3) := by decide

/-- R227. -/
theorem test_JP_HL :
    see (run (start [0xE9#8] { zero with h := 0x40 } [])) (fun t => (t.cpu.pc, t.cost)) =
      some (0x4000#16, 1) := by decide

/-- R228, at 0x0100 moved to 0xC100. -/
theorem test_JR_forward :
    see (run (start [0x18#8, 0x05#8] { zero with pc := 0xC100 } [])) (fun t => (t.cpu.pc, t.cost)) =
      some (0xC107#16, 3) := by decide

/-- R228, at 0x0110 moved to 0xC110. -/
theorem test_JR_back :
    see (run (start [0x18#8, 0xFB#8] { zero with pc := 0xC110 } [])) (fun t => (t.cpu.pc)) =
      some (0xC10D#16) := by decide

/-- R229, at 0x0104 moved to 0xC104. -/
theorem test_JR_NZ_taken :
    see (run (start [0x20#8, 0xFC#8] { zero with pc := 0xC104 } [])) (fun t => (t.cpu.pc, t.cost)) =
      some (0xC102#16, 3) := by decide

/-- R229, at 0x0104 moved to 0xC104. -/
theorem test_JR_NZ_fails :
    see (run (start [0x20#8, 0xFC#8] { zero with pc := 0xC104, f := 0x80 } [])) (fun t => (t.cpu.pc, t.cost)) =
      some (0xC106#16, 2) := by decide

/-- R230, at 0x0100 moved to 0xC100. -/
theorem test_CALL_a16 :
    see (run (start [0xCD#8, 0x34#8, 0x12#8] { zero with pc := 0xC100, sp := 0xFFFE } [])) (fun t => (t.cpu.pc, t.cpu.sp, byteAt t 0xFFFD, byteAt t 0xFFFC, t.cost)) =
      some (0x1234#16, 0xFFFC#16, some 0xC1#8, some 0x03#8, 6) := by decide

/-- R231. -/
theorem test_CALL_C_fails :
    see (run (start [0xDC#8, 0x00#8, 0x30#8] zero [])) (fun t => (t.cpu.pc, t.cpu.sp, t.cost)) =
      some (0xC003#16, 0xDFF0#16, 3) := by decide

/-- R232. -/
theorem test_RET :
    see (run (start [0xC9#8] { zero with sp := 0xFFFC } [(0xFFFC, 0x03#8), (0xFFFD, 0x01#8)])) (fun t => (t.cpu.pc, t.cpu.sp, t.cost)) =
      some (0x0103#16, 0xFFFE#16, 4) := by decide

/-- R233. -/
theorem test_RET_C_taken :
    see (run (start [0xD8#8] { zero with sp := 0xFFFC, f := 0x10 } [(0xFFFC, 0x03#8), (0xFFFD, 0x01#8)])) (fun t => (t.cpu.pc, t.cpu.sp, t.cost)) =
      some (0x0103#16, 0xFFFE#16, 5) := by decide

/-- R234. -/
theorem test_RETI :
    see (run (start [0xD9#8] { zero with sp := 0xFFFC } [(0xFFFC, 0x50#8), (0xFFFD, 0x01#8)])) (fun t => (t.cpu.pc, t.cpu.ime, t.cost)) =
      some (0x0150#16, true, 4) := by decide

/-- R236, at 0x0200 moved to 0xC200. -/
theorem test_RST_28 :
    see (run (start [0xEF#8] { zero with pc := 0xC200, sp := 0xFFFE } [])) (fun t => (t.cpu.pc, t.cpu.sp, byteAt t 0xFFFD, byteAt t 0xFFFC, t.cost)) =
      some (0x0028#16, 0xFFFC#16, some 0xC2#8, some 0x01#8, 4) := by decide

/-- R245. -/
theorem test_NOP :
    see (run (start [0x00#8] zero [])) (fun t => (t.cpu, t.cost)) =
      some ({ zero with pc := 0xC001 }, 1) := by decide

/-- R246. -/
theorem test_HALT :
    see (run (start [0x76#8] { zero with pc := 0xC200 } [])) (fun t => (t.cpu.mode, t.cpu.pc, t.cost)) =
      some (.halted, 0xC201#16, 1) := by decide

/-- R247, the model's choice of log 7. -/
theorem test_STOP :
    see (run (start [0x10#8] zero [])) (fun t => (t.cpu, t.cost)) =
      some ({ zero with pc := 0xC001 }, 1) := by decide

/-- R248. -/
theorem test_DI :
    see (run (start [0xF3#8] { zero with ime := true } [])) (fun t => (t.cpu.ime, t.cost)) =
      some (false, 1) := by decide

/-- R249. -/
theorem test_EI :
    see (run (start [0xFB#8] zero [])) (fun t => (t.cpu.ime, t.cost)) =
      some (true, 1) := by decide

/-- R251. -/
theorem test_undefined_DD :
    see (run (start [0xDD#8] zero [])) (fun t => (t.cpu, t.cost)) =
      some ({ zero with pc := 0xC001 }, 1) := by decide

/-! ## One step: the devices and the interrupt half (`95_test_vectors.md` Part 3) -/

theorem next_of_see {α : Type} {o : Out} {f : State → α} {x : α} (h : see o f = some x) : ∃ t, o = .next t ∧ f t = x := by
  cases o with
  | next t => exact ⟨t, rfl, Option.some.inj h⟩
  | fault f => cases h
  | refused r => cases h

/-- A state with its interrupt registers. -/
def withIrq (s : State) (ime : Bool) (ie ifr : Byte) : State := { s.setIme ime with irq := ⟨ie, ifr⟩ }

/-- 3.1, line 6a: `EI` takes effect at once and the interrupt half of the same step dispatches. -/
theorem test_step_EI_dispatches :
    see (step (withIrq (start [0xFB#8] { zero with sp := 0xD000 } []) false 0x04 0x04))
      (fun t => (t.cpu, t.irq.ifr, byteAt t 0xCFFF, byteAt t 0xCFFE)) =
      some ({ zero with sp := 0xCFFE, pc := 0x0050, serviced := true }, 0x00#8, some 0xC0#8, some 0x01#8) := by decide

/-- R275: the lowest enabled source is served; R261: the next step pays 5 cycles. -/
theorem test_step_priority_and_penalty :
    see (step (withIrq (start [0x00#8] { zero with sp := 0xD000, serviced := true } []) true 0x14 0x1C))
      (fun t => (t.cpu.pc, t.irq.ifr, t.cycles)) = some (0x0050#16, 0x18#8, 6) := by decide

/-- R272: a halted machine with `IME` clear wakes on an enabled request and serves none. -/
theorem test_step_wake :
    see (step (withIrq (start [] { zero with mode := .halted } []) false 0x01 0x01))
      (fun t => (t.cpu.mode, t.cpu.pc, t.irq.ifr, t.cycles)) = some (.running, 0xC000#16, 0x01#8, 1) := by decide

/-- R281, R282: the counter reloads and requests the timer interrupt. -/
theorem test_step_timer :
    see (step { start [0x00#8] zero [] with timer := ⟨12, 0xFF, 0x23, 0x05⟩ })
      (fun t => (t.timer, t.irq.ifr)) = some (⟨0, 0x23, 0x23, 0x05⟩, 0x04#8) := by decide

/-- R326, R332: tick 80 is still OAM scan, tick 84 is drawing. -/
theorem test_step_ppuMode :
    see (step { start [0x00#8] zero [] with ppu := { Ppu.reset with ticks := 76 } }) (fun t => (t.ppu.ticks, t.ppu.mode)) =
      some (80, .oamScan) ∧
    see (step { start [0x00#8] zero [] with ppu := { Ppu.reset with ticks := 80 } }) (fun t => (t.ppu.ticks, t.ppu.mode)) =
      some (84, .drawing) := by decide

/-- R327, R328: the line after 143 is vertical blank; the counter keeps its excess. -/
theorem test_step_vblank :
    see (step { start [0x00#8] zero [] with ppu := { Ppu.reset with ticks := 455, ly := 143, winLine := 7, winInFrame := true } })
      (fun t => (t.ppu.ly, t.ppu.ticks, t.ppu.mode, t.irq.ifr, t.ppu.frameReady, t.ppu.winLine)) =
      some (144#8, 3, .vblank, 0x01#8, true, 0) := by decide

/-- The instruction a table word names is decoded and run first after reset. -/
theorem test_withFetchWord :
    decodeTableWord 16 0xCB37 = some .swapA ∧ decodeTableWord 8 0x3C = some .incA ∧
    see (step (State.reset.withFetchWord 16 0xCB37)) (fun t => (t.cpu.a, t.cpu.pc)) = some (0x10#8, 0x0102#16) ∧
    see (step (State.reset.withFetchWord 8 0x3C)) (fun t => (t.cpu.a, t.cpu.pc)) = some (0x02#8, 0x0101#16) := by decide

/-! ## Witnesses -/

/-- A state on an MBC1-style cartridge of `banks` banks and `ram` bytes of RAM. -/
def onMbc1 (banks ram : Nat) (r : Mbc1) : State := { State.reset with cart := { Cart.blank with bankCount := banks, ramSize := ram, ctrl := .mbc1 r } }

/-- A state on an MBC3-style cartridge. -/
def onMbc3 (banks ram : Nat) (r : Mbc3) : State := { State.reset with cart := { Cart.blank with bankCount := banks, ramSize := ram, ctrl := .mbc3 r } }

theorem test_witness_DecodingAnEncodedInstructionGivesItBack : wellFormed .nop = true ∧ wellFormed (.callC_a16 0xFFFF#16) = true := by
  decide
theorem test_witness_DecodedBytesAreTheEncoding :
    decode [0x00#8] = .ok (.nop, []) ∧ decode [0xCB#8, 0xFF#8, 0x01#8] = .ok (.set7_A, [0x01#8]) := by decide

theorem test_witness_StepRunsTheDecodedInstruction :
    let s := start [0xCD#8, 0x34#8, 0x12#8] zero []
    wellFormed (.call_a16 0x1234#16) = true ∧ s.cpu.mode = .running ∧
      ∀ (k : Nat) (hk : k < (encode (.call_a16 0x1234#16)).length),
        memRead s (s.cpu.pc + BitVec.ofNat 16 k) = .ok (encode (.call_a16 0x1234#16))[k] := by
  exact ⟨by decide, by decide, fun k hk => match k, hk with
    | 0, _ => rfl
    | 1, _ => rfl
    | 2, _ => rfl⟩

/-- Both outcomes of the wait: still halted, and woken. -/
theorem test_witness_HaltWaitsAndStopIsANoOp :
    (let s := start [] { zero with mode := .halted } []
     s.cpu.mode = .halted ∧ s.cpu.ime = false ∧ s.params.cost = [] ∧ ∃ t, step s = .next t ∧ t.cpu.mode = .halted) ∧
    (let s := withIrq (start [] { zero with mode := .halted } []) false 0x01 0x01
     s.cpu.mode = .halted ∧ s.cpu.ime = false ∧ s.params.cost = [] ∧ ∃ t, step s = .next t ∧ t.cpu.mode = .running) :=
  ⟨⟨by decide, by decide, by decide, next_of_see (by decide)⟩, ⟨by decide, by decide, by decide, next_of_see (by decide)⟩⟩

/-- The two bounds are met: the cheapest instruction, and a `CALL` after a dispatch. -/
theorem test_witness_StepTakesOneToElevenCycles :
    (∃ t, step (start [0x00#8] zero []) = .next t ∧ t.cycles = 1) ∧
    (∃ t, step (start [0xCD#8, 0#8, 0#8] { zero with serviced := true } []) = .next t ∧ t.cycles = 11) ∧
    (start [0x00#8] zero []).params.cost = [] := ⟨next_of_see (by decide), next_of_see (by decide), by decide⟩

theorem test_witness_EveryStepKeepsTheInvariant : State.reset.inv = true ∧ ∃ t, step State.reset = .next t ∧ t.inv = true :=
  ⟨by decide, next_of_see (by decide)⟩

/-- A step that writes the bank register, on each kind of cartridge. -/
theorem test_witness_NoStepChangesImageHeaderOrParameters :
    (∃ t, step (start [0xEA#8, 0x00#8, 0x20#8] { zero with a := 1 } []) = .next t ∧ t.cart.ctrl = .none) ∧
    (∃ t, step { onMbc1 4 0 Mbc1.reset with cpu := { zero with a := 2 }, ram := put [(0xC000, 0xEA#8), (0xC002, 0x20#8)] [] } =
      .next t ∧ t.cart.ctrl = .mbc1 { Mbc1.reset with romBank := 2 }) ∧
    (∃ t, step { onMbc3 4 0 Mbc3.reset with cpu := { zero with a := 3 }, ram := put [(0xC000, 0xEA#8), (0xC002, 0x20#8)] [] } =
      .next t ∧ t.cart.ctrl = .mbc3 { Mbc3.reset with romBank := 3 }) :=
  ⟨next_of_see (by decide), next_of_see (by decide), next_of_see (by decide)⟩

theorem test_witness_NoStepStopsOnAnOrdinaryCartridge :
    State.reset.cart.neverRefuses = true ∧ (onMbc1 2 0 Mbc1.reset).cart.neverRefuses = true ∧
    (onMbc1 128 0x8000 Mbc1.reset).cart.neverRefuses = true ∧ (onMbc1 128 0x2000 Mbc1.reset).cart.neverRefuses = false := by
  decide

/-- Both refusals happen: code that runs past the buffer, and code in a bank outside the image. -/
theorem test_witness_StepsStopOnlyOutsideTheCartridge :
    step { onMbc1 2 0x2000 { Mbc1.reset with ramEnable := true, ramBank := 1 } with cpu := { zero with pc := 0xA000 } } =
      .refused .xramOutOfRange ∧
    step { onMbc3 2 0 { Mbc3.reset with romBank := 2 } with cpu := { zero with pc := 0x4000 } } = .refused .romOutOfRange :=
  ⟨rfl, rfl⟩

/-- A full line counter, a transfer one cycle from its copy, and a step without a dispatch. -/
theorem test_witness_DeviceCountersStayInRange :
    let s := { start [0x00#8] zero [] with ppu := { Ppu.reset with ticks := 456, ly := 143 }, dma := ⟨.transferring, 158, 0xC100⟩ }
    s.params.cost = [] ∧ s.params.tickScale ≤ 4 ∧ s.ppu.ticks ≤ 456 ∧
      ∃ t, step s = .next t ∧ t.dma.mode = .transferring ∧ t.cpu.serviced = false ∧ t.ppu.ticks = 4 ∧ t.dma.elapsed = 159 :=
  ⟨by decide, by decide, by decide,
    (next_of_see (f := fun t => (t.dma.mode, t.cpu.serviced, t.ppu.ticks, t.dma.elapsed)) (x := (.transferring, false, 4, 159))
      (by decide)).imp fun t h => ⟨h.1, by simpa using h.2⟩⟩

theorem test_witness_PairsAreTheirTwoBytes : zero.f &&& 0x0F#8 = 0#8 ∧ { zero with f := 0xF0 }.f &&& 0x0F#8 = 0#8 := by decide

/-- `POP AF` of a word with a full low byte, as an instruction and as a step. -/
theorem test_witness_LowFlagNibbleIsAlwaysZero :
    let s := start [0xF1#8] { zero with sp := 0xC100 } [(0xC100, 0xFF#8)]
    s.cpu.f &&& 0x0F#8 = 0#8 ∧ (∃ t, exec .popAF s = .next t ∧ t.cpu.f = 0xF0#8) ∧ ∃ t, step s = .next t ∧ t.cpu.f = 0xF0#8 :=
  ⟨by decide, next_of_see (by decide), next_of_see (by decide)⟩

/-- The first and the last address of each clause of `BusReadsByRegion` and `BusWritesByRegion` (R43). -/
theorem test_witness_BusRegions :
    [0x0000#16, 0x7FFF#16, 0x8000#16, 0x9FFF#16, 0xA000#16, 0xBFFF#16, 0xC000#16, 0xDFFF#16, 0xE000#16, 0xFDFF#16, 0xFE00#16,
     0xFE9F#16, 0xFEA0#16, 0xFEFF#16, 0xFF00#16, 0xFF7F#16, 0xFF80#16, 0xFFFE#16, 0xFFFF#16].map regionOf =
    [.rom, .rom, .vram, .vram, .xram, .xram, .wram, .wram, .echo, .echo, .oam, .oam, .unused, .unused, .io, .io, .hram, .hram,
     .ie] := by decide

/-- The clauses of the two bus statements with a premise on the device: an answered external RAM write, a mapped and an
unmapped I/O address. -/
theorem test_witness_BusWritesByRegion :
    State.reset.cart.xramWrite 0xA000 0x12#8 = .ok State.reset.cart ∧
    (onMbc1 2 0x2000 { Mbc1.reset with ramEnable := true }).cart.xramWrite 0xBFFF 0x12#8 =
      .ok { (onMbc1 2 0x2000 { Mbc1.reset with ramEnable := true }).cart with xram := [(0x1FFF, 0x12#8)] } ∧
    ioRegAt 0xFF00#16 = some .p1 ∧ ioRegAt 0xFF4B#16 = some .wx ∧ ioRegAt 0xFF01#16 = none ∧ ioRegAt 0xFF7F#16 = none := by decide

/-- Answered accesses and refused ones, on the boundary of a one-bank buffer and of a two-bank image. -/
theorem test_witness_BusAnswersUnlessOutsideTheCartridge :
    let s := onMbc1 2 0x2000 { Mbc1.reset with ramEnable := true }
    let u := onMbc1 2 0x2000 { Mbc1.reset with ramEnable := true, ramBank := 1 }
    let r := onMbc3 2 0 { Mbc3.reset with romBank := 2 }
    memRead s 0xBFFF#16 = .ok 0#8 ∧ s.readable 0xBFFF#16 = true ∧ s.writable 0xBFFF#16 = true ∧
    memRead u 0xA000#16 = .error .xramOutOfRange ∧ (memWrite u 0xA000#16 1#8).toOption = none ∧
    u.readable 0xA000#16 = false ∧ u.writable 0xA000#16 = false ∧
    memRead r 0x3FFF#16 = .ok 0#8 ∧ memRead r 0x4000#16 = .error .romOutOfRange ∧ r.readable 0x4000#16 = false := by decide

/-- The boundary addresses of plain storage; the rest of the address space is not. -/
theorem test_witness_PlainStorageKeepsTheLastByteWritten :
    [0x8000#16, 0x9FFF#16, 0xC000#16, 0xDFFF#16, 0xE000#16, 0xFDFF#16, 0xFE00#16, 0xFEFF#16, 0xFF80#16, 0xFFFE#16].all
      plainStorage = true ∧
    [0x0000#16, 0x7FFF#16, 0xA000#16, 0xBFFF#16, 0xFF00#16, 0xFF7F#16, 0xFFFF#16].any plainStorage = false ∧
    ramHome Params.default 0xE123#16 = ramHome Params.default 0xC123#16 := by decide

/-- Both ends of echo RAM, with the default map and with an override. -/
theorem test_witness_EchoRamMirrorsWorkRam :
    State.reset.params.echo = [] ∧ (0xE000#16).toNat = 0xE000 ∧ (0xFDFF#16).toNat < 0xFE00 ∧
    Params.echoOffset Params.default 0xFDFF = 0x1DFF ∧ Params.echoOffset { Params.default with echo := [(0xE000, 5)] } 0xE000 = 5 := by
  decide

theorem test_witness_UnmappedIoReadsOpenBus :
    [0xFF01#16, 0xFF0E#16, 0xFF10#16, 0xFF3F#16, 0xFF4C#16, 0xFF7F#16].all (fun a => (ioRegAt a).isNone && 0xFF00 ≤ a.toNat) = true ∧
    byteAt State.reset 0xFF01#16 = some 0xFF#8 ∧ byteAt State.reset 0xFF7F#16 = some 0xFF#8 := by decide

/-- Every kind of cartridge at the edges of its windows: bank 0 below 0x4000, the bank above, the last bank of the image, one
past it; and external RAM off, inside the buffer, and past it. -/
theorem test_witness_CartridgeShowsTheSelectedBank :
    State.reset.cart.ctrl = .none ∧ byteAt State.reset 0x7FFF#16 = some 0#8 ∧
    (let s := onMbc1 4 0 { Mbc1.reset with romBank := 3 }
     let t := { s with cart := { s.cart with rom := [(0x3FFF, 1#8), (0xC000, 2#8), (0xFFFF, 3#8)] } }
     [byteAt t 0x3FFF, byteAt t 0x4000, byteAt t 0x7FFF] = [some 1#8, some 2#8, some 3#8]) ∧
    (let s := onMbc3 4 0 { Mbc3.reset with romBank := 3 }
     let t := { s with cart := { s.cart with rom := [(0x3FFF, 1#8), (0xC000, 2#8), (0xFFFF, 3#8)] } }
     [byteAt t 0x3FFF, byteAt t 0x4000, byteAt t 0x7FFF] = [some 1#8, some 2#8, some 3#8]) ∧
    byteAt (onMbc3 4 0 { Mbc3.reset with romBank := 4 }) 0x4000 = none ∧
    byteAt (onMbc3 4 0x2000 Mbc3.reset) 0xA000 = some 0xFF#8 ∧
    byteAt (onMbc3 4 0x2000 { Mbc3.reset with ramEnable := true }) 0xBFFF = some 0#8 ∧
    byteAt (onMbc3 4 0x2000 { Mbc3.reset with ramEnable := true, ramBank := 1 }) 0xA000 = none :=
  ⟨rfl, rfl, rfl, rfl, rfl, rfl, rfl, rfl⟩

/-- A write to the first and last address of each register, on both controllers. -/
theorem test_witness_BankRegisterWrites :
    (onMbc1 8 0 Mbc1.reset).cart.bankCountLegal = true ∧
    [(0x0000, 0x0A#8), (0x1FFF, 0x1A#8), (0x2000, 0x00#8), (0x3FFF, 0x1F#8), (0x4000, 0x07#8), (0x5FFF, 0x04#8), (0x6000, 0x03#8),
     (0x7FFF, 0x02#8)].map (fun w => Mbc1.write Mbc1.reset 8 w.1 w.2) =
    [{ Mbc1.reset with ramEnable := true }, { Mbc1.reset with ramEnable := true }, Mbc1.reset, { Mbc1.reset with romBank := 7 },
     { Mbc1.reset with ramBank := 3 }, Mbc1.reset, { Mbc1.reset with bankMode := 1 }, Mbc1.reset] ∧
    [(0x0000, 0x0A#8), (0x1FFF, 0x0B#8), (0x2000, 0x80#8), (0x3FFF, 0xFF#8), (0x4000, 0x07#8), (0x5FFF, 0xFF#8), (0x6000, 0x03#8),
     (0x7FFF, 0x02#8)].map (fun w => Mbc3.write Mbc3.reset w.1 w.2) =
    [{ Mbc3.reset with ramEnable := true }, Mbc3.reset, Mbc3.reset, { Mbc3.reset with romBank := 127 },
     { Mbc3.reset with ramBank := 7 }, { Mbc3.reset with ramBank := 255 }, Mbc3.reset, Mbc3.reset] := by decide

theorem test_witness_ExternalRamGateAndMbc1Banks :
    byteAt State.reset 0xA000 = some 0xFF#8 ∧ byteAt (onMbc1 4 0x2000 Mbc1.reset) 0xBFFF = some 0xFF#8 ∧
    byteAt (onMbc1 4 0x2000 { Mbc1.reset with ramEnable := true }) 0xBFFF = some 0#8 ∧
    byteAt (onMbc1 4 0x2000 { Mbc1.reset with ramEnable := true, ramBank := 1 }) 0xA000 = none := by decide

/-- An image of `n` bytes whose header holds the type `t` and the size codes `r` and `x`. -/
def image (n : Nat) (t r x : Byte) : List Byte := List.replicate 0x147 0#8 ++ t :: r :: x :: List.replicate (n - 0x14A) 0#8

theorem getD_after (m : Nat) (t r x : Byte) (l : List Byte) :
    (List.replicate m 0#8 ++ t :: r :: x :: l).getD m 0#8 = t ∧ (List.replicate m 0#8 ++ t :: r :: x :: l).getD (m + 1) 0#8 = r ∧
      (List.replicate m 0#8 ++ t :: r :: x :: l).getD (m + 2) 0#8 = x := by
  simp

theorem image_header (n : Nat) (t r x : Byte) (h : 0x14A ≤ n) :
    (image n t r x).getD 0x147 0#8 = t ∧ (image n t r x).getD 0x148 0#8 = r ∧ (image n t r x).getD 0x149 0#8 = x ∧
      (image n t r x).length = n := by
  have hg := getD_after 0x147 t r x (List.replicate (n - 0x14A) 0#8)
  refine ⟨hg.1, hg.2.1, hg.2.2, ?_⟩
  simp only [image, List.length_append, List.length_replicate, List.length_cons]; omega

/-- The title ends at the first zero byte or after sixteen (R70). -/
theorem test_R70_title :
    titleOf (List.replicate 0x134 0#8 ++ [0x54#8, 0x49#8, 0#8, 0x58#8]) = [0x54#8, 0x49#8] ∧
    (titleOf (List.replicate 0x154 0x41#8)).length = 16 := by decide

/-- Images a launch accepts, of each kind and at the largest size, and one it refuses; contents of RAM; a saved byte inside
the buffer. -/
theorem test_witness_LaunchDecodesTheHeader :
    (image 0x8000 0x00 0x00 0x00).length = 32768 * 2 ^ 0 ∧ (image 0x8000 0x03 0x00 0x02).length = 32768 * 2 ^ 0 ∧
    (image 0x200000 0x13 0x06 0x05).length = 32768 * 2 ^ 6 ∧ 2 * 2 ^ 6 ≤ 128 ∧
    (image 0x200000 0x13 0x06 0x05).getD 0x147 0#8 = 0x13#8 ∧ (image 0x200000 0x13 0x06 0x05).getD 0x149 0#8 = 0x05#8 ∧
    controllerOf 0x13 = some (.mbc3 Mbc3.reset) ∧ controllerOf 0x04 = none ∧ ([] : List Byte).length ≠ 32768 * 2 ^ 0 ∧
    Memory.wf [(0xC000, 0x01#8)] = true ∧ 0 < [0, 0, 8192, 32768, 131072, 65536].getD 2 0 ∧ 0 < [0x77#8].length := by
  have h := image_header 0x200000 0x13 0x06 0x05 (by norm_num)
  refine ⟨?_, ?_, ?_, by norm_num, h.1, h.2.2.1, by decide, by decide, by norm_num, by decide, by decide, by decide⟩
  · exact (image_header 0x8000 0x00 0x00 0x00 (by norm_num)).2.2.2
  · exact (image_header 0x8000 0x03 0x00 0x02 (by norm_num)).2.2.2
  · rw [h.2.2.2]; norm_num

/-- Off, under the threshold, at it, and at it with a full counter. -/
theorem test_witness_TimerTickCountsOnceAtTheThreshold :
    [(0x01#8, 100, 0#8), (0x05#8, 15, 0#8), (0x05#8, 16, 0#8), (0x05#8, 16, 0xFF#8), (0x04#8, 1024, 0#8)].map
      (fun w => (State.timerTick { State.reset with timer := ⟨0, w.2.2, 0x77, w.1⟩ } w.2.1).timer) =
    [⟨100, 0, 0x77, 0x01⟩, ⟨15, 0, 0x77, 0x05⟩, ⟨0, 1, 0x77, 0x05⟩, ⟨0, 0x77, 0x77, 0x05⟩, ⟨0, 1, 0x77, 0x04⟩] := by decide

theorem readable_reset (a : Word) : State.reset.readable a = true := by
  unfold State.readable
  split
  · rfl
  · split <;> rfl

/-- Off, one cycle before the copy, and at it, from the first and the last page and from OAM itself. -/
theorem test_witness_DmaCopiesThePageAfter160Cycles :
    State.reset.dma.mode = .off ∧
    (let s := { State.reset with dma := ⟨.waiting, 0, 0xC100⟩ }
     s.dma.mode ≠ .off ∧ s.dma.elapsed + 159 < 160 ∧ 160 ≤ s.dma.elapsed + 160 ∧ s.dma.source.toNat % 256 = 0 ∧
      ∀ i < 160, s.readable (s.dma.source + BitVec.ofNat 16 i) = true) ∧
    ∀ i < 160, State.reset.readable (0xFE00#16 + BitVec.ofNat 16 i) = true ∧ State.reset.readable (0xFF00#16 + BitVec.ofNat 16 i) = true :=
  ⟨by decide, ⟨by decide, by decide, by decide, by decide, fun _ _ => readable_reset _⟩, fun _ _ => ⟨readable_reset _, readable_reset _⟩⟩

/-- No group, each group, and both; a press and a release. -/
theorem test_witness_JoypadShowsTheSelectedGroups :
    let held := { Buttons.released with right := true, b := true }
    [(true, true), (false, true), (true, false), (false, false)].map (fun d => Joypad.read ⟨d.1, d.2, held⟩) =
      [0xFF#8, 0xEE#8, 0xDD#8, 0xCC#8] ∧
    Buttons.newPress Buttons.released held = true ∧ Buttons.newPress held Buttons.released = false := by decide

/-- `IME` clear with a request pending, and `IME` set with none. -/
theorem test_witness_WakeWithoutService :
    (withIrq State.reset false 0x01 0x01).cpu.ime = false ∧
    (withIrq State.reset true 0xE0 0xFF).irq.ie &&& (withIrq State.reset true 0xE0 0xFF).irq.ifr &&& 0x1F#8 = 0#8 := by decide

/-- The lowest and the highest source, the stack in work RAM and at the I/O registers. -/
theorem test_witness_InterruptDispatchEntersTheVector :
    (let s := withIrq State.reset true 0x1F 0x1F
     s.cpu.ime = true ∧ firstSource s.irq.pend = some .vblank ∧ s.canPush = true) ∧
    (let s := withIrq (State.reset.setSp 0xFF10) true 0x10 0xF0
     s.cpu.ime = true ∧ firstSource s.irq.pend = some .joypad ∧ s.canPush = true) := by decide

theorem test_witness_RetiResumesTheInterruptedCode :
    let s := withIrq (State.reset.setSp 0xC002) true 0x04 0x04
    s.cpu.ime = true ∧ s.irq.ie &&& s.irq.ifr &&& 0x1F#8 ≠ 0#8 ∧ s.plainStack = true := by decide

/-- The line selected with the stored line low, high, and not selected. -/
theorem test_witness_StatLineRequestsOnItsRisingEdge :
    [(0x40#8, false), (0x40#8, true), (0x00#8, false), (0x08#8, false)].map
      (fun w => (State.statEval { State.reset with irq := ⟨0, 0⟩, ppu := { Ppu.reset with stat := w.1, statLine := w.2 } }).irq.ifr) =
    [0x02#8, 0x00#8, 0x00#8, 0x02#8] := by decide

/-- Each clause of the tick at its boundary: off; counter 80, 252, 456 of a visible line and of vertical blank; past 456 into
vertical blank, into a later blank line, and into line 0. -/
theorem test_witness_PpuTickWalksTheLines :
    let at_ (lcdc ly : Byte) (k : Nat) : Byte × Nat × Byte :=
      let t := State.ppuTick { State.reset with ppu := { Ppu.reset with lcdc := lcdc, ly := ly, lyc := 0xFF, stat := 0x81 } } k
      (t.ppu.ly, t.ppu.ticks, t.ppu.stat)
    at_ 0x11 5 100 = (5, 0, 0x81) ∧ at_ 0x80 0 80 = (0, 80, 0x82) ∧ at_ 0x80 0 81 = (0, 81, 0x83) ∧
    at_ 0x80 143 456 = (143, 456, 0x80) ∧ at_ 0x80 144 456 = (144, 456, 0x81) ∧
    at_ 0x80 143 457 = (144, 1, 0x81) ∧ at_ 0x80 144 457 = (145, 1, 0x81) := by decide

/-- Line 153 rolls over to line 0, a visible line. -/
theorem test_witness_PpuTickRendersLineZero :
    let p := { Ppu.reset with ly := 153 }
    (if p.ly = 153#8 then 0#8 else p.ly + 1#8).toNat < 144 ∧ p.lcdc.getLsbD 7 = true ∧ 456 < p.ticks + 457 := by decide

theorem test_witness_RenderingTouchesOnlyItsLine :
    let d := Params.default.screen
    159 < 1 * d.w ∧ 1 * d.w + d.w ≤ 320 ∧ d.h ≤ 144 := by decide

/-- A window that starts at the last column, one a column too far, and one that `WY` activates; sprites off; the last line
and column of the default screen. -/
theorem test_witness_EveryColumnIsWindowOrBackground :
    let d := Params.default.screen
    (let p := { Ppu.reset with lcdc := 0xB1, wx := 166 }
     p.lcdc.getLsbD 5 = true ∧ (p.winInFrame = true ∨ 0 = p.wy.toNat) ∧ (p.wx.toNat : Int) - 7 ≤ (d.w : Int) - 1 ∧
     p.lcdc.getLsbD 1 = false) ∧
    (let p := { Ppu.reset with lcdc := 0xB1, wx := 167 }
     ¬ ((p.wx.toNat : Int) - 7 ≤ (d.w : Int) - 1)) ∧
    (let p := { Ppu.reset with wy := 3 }
     ¬ (p.winInFrame = true ∨ 0 = p.wy.toNat)) ∧ 159 < d.w ∧ 143 < d.h := by decide

theorem test_witness_TilesMapsAndShades : 0x97F0 + 2 * 7 + 1 < 0xA000 ∧ 7 < 8 ∧ 0x9C00 + 32 * (255 / 8) + 255 / 8 < 0xA000 := by decide

/-- A sprite's first and last row; a pixel left of the screen, on it, and behind the background. -/
theorem test_witness_SpritePixelsRespectPriority :
    let d := Params.default.screen
    let ram := put [(0x8010, 0xFF#8), (0x801E, 0xFF#8)] []
    let p := { Ppu.reset with lcdc := 0x93, obp0 := 0xE4 }
    let o : Sprite := ⟨16, 9, 1, 0⟩
    (o.y.toNat ≤ 0 + 16 ∧ 0 + 16 < o.y.toNat + 8 ∧ o.y.toNat ≤ 7 + 16 ∧ 7 + 16 < o.y.toNat + 8) ∧
    p.spritePixel d ram 0 { o with x := 7 } 0 = p ∧ (p.spritePixel d ram 0 o 0).fb = [(1, 1#2)] ∧
    (p.spritePixel d ram 7 o 7).fb = [(1128, 1#2)] ∧
    Ppu.spritePixel { p with bgidx := [(1, 3#2)] } d ram 0 { o with attr := 0x80 } 0 = { p with bgidx := [(1, 3#2)] } := by decide

/-- R343 by hand, on a screen of 4 columns. Two sprites cover columns 0 to 2, the first (index 1) behind a non-zero
background. The background is 1 at column 0 and 3 at column 3: at column 0 the second sprite (index 2) shows, at 1 and 2 the
first, at 3 none. -/
theorem test_R343_sprite_pass :
    let ram := put [(0x8000, 0x90#8), (0x8001, 0x10#8), (0x8010, 0xFF#8), (0x8021, 0xFF#8)] []
    let p := { Ppu.reset with lcdc := 0x93, bgp := 0xE4, obp0 := 0xE4, obp1 := 0xE4, sprites := [⟨16, 3, 1, 0x80⟩, ⟨16, 3, 2, 0x10⟩] }
    p.lcdc.getLsbD 1 = true ∧ (∀ o ∈ p.sprites, o.y.toNat ≤ 0 + 16 ∧ 0 + 16 < o.y.toNat + 8) ∧
    (List.range 4).map (p.renderLine ⟨4, 1⟩ ram 0).bgidx.read = [1, 0, 0, 3] ∧
    (List.range 4).map (p.renderLine ⟨4, 1⟩ ram 0).fb.read = [2, 1, 1, 3] :=
  ⟨by decide, by decide, by decide +kernel, by decide +kernel⟩

/-- Addresses the bus answers a read of: in ROM, at the edges of external RAM and at `IE`, and those of the pairs at reset. -/
theorem test_witness_MemoryLoads :
    State.reset.readable 0x0000#16 = true ∧ State.reset.readable 0xA000#16 = true ∧ State.reset.readable 0xBFFF#16 = true ∧
    State.reset.readable 0xFFFF#16 = true ∧ State.reset.readable (State.reset.cpu.pair .hl) = true ∧
    State.reset.readable (State.reset.cpu.pair .bc) = true ∧ State.reset.readable (State.reset.cpu.pair .de) = true := by decide

/-- Addresses the bus answers a write of; the two of a 16-bit store that wraps. -/
theorem test_witness_MemoryStores :
    State.reset.writable 0x0000#16 = true ∧ State.reset.writable 0xFFFF#16 = true ∧ State.reset.writable (0xFFFF#16 + 1#16) = true ∧
    State.reset.writable (State.reset.cpu.pair .hl) = true ∧ State.reset.writable (State.reset.cpu.pair .bc) = true ∧
    State.reset.writable (State.reset.cpu.pair .de) = true := by decide

/-- The operand at `HL` is answered in ROM (reset), in work RAM and at an I/O register. -/
theorem test_witness_AccumulatorOperations :
    State.reset.readable (State.reset.cpu.pair .hl) = true ∧ (State.reset.setPair .hl 0xC000).readable 0xC000 = true ∧
    (State.reset.setPair .hl 0xFF04).readable 0xFF04 = true := by decide
theorem test_witness_IncrementAndDecrement :
    let s := start [] { zero with h := 0xC1 } [(0xC100, 0xFF#8)]
    s.readable (s.cpu.pair .hl) = true ∧ byteAt s (s.cpu.pair .hl) = some 0xFF#8 := by decide
theorem test_witness_SecondaryPage :
    let s := start [] { zero with h := 0xC1 } [(0xC100, 0x80#8)]
    (Operand8.mem = .mem → s.readable (s.cpu.pair .hl) = true) ∧ (Operand8.reg .b = .mem → s.readable (s.cpu.pair .hl) = true) := by decide
theorem test_witness_SystemInstructions : State.reset.readable (State.reset.cpu.pair .hl) = true := by decide

/-- The stack at its usual place, and where it wraps between ROM and the top of memory. -/
theorem test_witness_PushAndPop :
    State.reset.canPush = true ∧ State.reset.canPop = true ∧ (State.reset.setSp 0x0001).canPush = true ∧
    (State.reset.setSp 0xFFFF).canPop = true := by decide
theorem test_witness_PopUndoesPush :
    State.reset.plainStack = true ∧ State.reset.cpu.f &&& 0x0F#8 = 0#8 ∧ (State.reset.setSp 0xA001).plainStack = false := by decide

/-- Every condition holds in some state and fails in another. -/
theorem test_witness_Jumps :
    [Cond.nz, .z, .nc, .c].all (fun cc => { zero with f := 0x90 }.holds cc != zero.holds cc) = true := by decide
theorem test_witness_CallsReturnsAndRestarts :
    (start [] zero []).canPush = true ∧ (start [] zero []).canPop = true ∧ zero.holds .nz = true ∧ zero.holds .z = false ∧
    zero.holds .nc = true ∧ zero.holds .c = false := by decide

theorem test_witness_DaaGivesDecimalResults : 99 < 100 ∧ { zero with a := 0x99 }.a = bcd 99 ∧ zero.a = bcd 0 := by decide

/-- An instruction that stores nothing, one that stores to plain storage, and one that stores to a device register. -/
theorem test_witness_InstructionsStoreOnlyWhereTheySay :
    (let s := start [] zero []
     storedAddrs .incB s = [] ∧ ∃ t, exec .incB s = .next t ∧ t.cpu.b = 1) ∧
    (let s := start [] { zero with h := 0xC1 } []
     storedAddrs .incMHL s = [0xC100#16] ∧ plainStorage 0xC100#16 = true ∧ ramHome s.params 0xC100#16 ≠ ramHome s.params 0xC101#16 ∧
      ∃ t, exec .incMHL s = .next t ∧ byteAt t 0xC100 = some 1) ∧
    (let s := start [] zero []
     storedAddrs (.ldhMa8_A 0x46) s = [0xFF46#16] ∧ plainStorage 0xC100#16 = true ∧
      ramHome s.params 0xFF46#16 ≠ ramHome s.params 0xC100#16 ∧ ∃ t, exec (.ldhMa8_A 0x46) s = .next t ∧ t.dma.mode = .waiting) :=
  ⟨⟨rfl, next_of_see (by decide)⟩, ⟨rfl, by decide, by decide, next_of_see (by decide)⟩,
    ⟨rfl, by decide, by decide, next_of_see (by decide)⟩⟩

end Sys2Proof.Tests
end

namespace Sys2Proof.Machine

/-! ## Register pairs and flags (O16, O18) -/

/-- A byte whose low nibble is zero is its own high nibble: the mask of R13 does not change it. -/
theorem and_highNibble_of_lowNibble_zero {f : Byte} (h : f &&& 0x0F#8 = 0#8) : f &&& 0xF0#8 = f :=
  calc f &&& 0xF0#8 = (f &&& 0xF0#8) ||| (f &&& 0x0F#8) := by rw [h, BitVec.or_zero]
    _ = f &&& (0xF0#8 ||| 0x0F#8) := BitVec.and_or_distrib_left.symm
    _ = f := BitVec.and_allOnes

/-- Reading `AF` joins `A` and `F`, the low nibble of `F` being zero (R11, R13). -/
theorem Cpu.stackPair_af {p : Cpu} (h : p.f &&& 0x0F#8 = 0#8) : p.stackPair .af = word p.a p.f :=
  congrArg (word p.a) (and_highNibble_of_lowNibble_zero h)

theorem Cpu.setPair_bc_word (p : Cpu) (h l : Byte) : p.setPair .bc (word h l) = { p with b := h, c := l } := by
  simp [Cpu.setPair]

theorem Cpu.setPair_de_word (p : Cpu) (h l : Byte) : p.setPair .de (word h l) = { p with d := h, e := l } := by
  simp [Cpu.setPair]

theorem Cpu.setPair_hl_word (p : Cpu) (h l : Byte) : p.setPair .hl (word h l) = { p with h := h, l := l } := by
  simp [Cpu.setPair]

theorem Cpu.setStackPair_af_word (p : Cpu) (h l : Byte) :
    p.setStackPair .af (word h l) = { p with a := h, f := l &&& 0xF0#8 } := by
  simp [Cpu.setStackPair]

/-- Settles O16: a pair is its two bytes for reads, for writes of the pair and for writes of one half. -/
theorem pairsAreTheirTwoBytes : Obligations.PairsAreTheirTwoBytes := by
  refine ⟨fun h l => by rw [word_toNat, Nat.mul_comm], fun p => ⟨rfl, rfl, rfl, Cpu.stackPair_af, fun h l => ?_, fun v => ?_⟩⟩
  · exact ⟨p.setPair_bc_word h l, p.setPair_de_word h l, p.setPair_hl_word h l, p.setStackPair_af_word h l⟩
  · exact ⟨rfl, rfl, rfl, rfl, rfl, rfl⟩

/-- The weights of the four flags in `F` (R12): one case per setting of the flags. -/
theorem Flags.pack_toNat (g : Flags) :
    g.pack.toNat = 128 * g.z.toNat + 64 * g.n.toNat + 32 * g.h.toNat + 16 * g.c.toNat := by
  obtain ⟨z, n, h, c⟩ := g
  cases z <;> cases n <;> cases h <;> cases c <;> rfl

/-- What each condition tests (R7). -/
theorem Cpu.holds_iff (p : Cpu) :
    (p.holds .nz = true ↔ p.f.getLsbD 7 = false) ∧ (p.holds .z = true ↔ p.f.getLsbD 7 = true) ∧
      (p.holds .nc = true ↔ p.f.getLsbD 4 = false) ∧ (p.holds .c = true ↔ p.f.getLsbD 4 = true) := by
  simp [Cpu.holds, Cpu.flags]

/-- Settles O18: the flags read back as packed, have their weights in `F`, and are what the conditions test. -/
theorem flagsAreTheHighBitsOfF : Obligations.FlagsAreTheHighBitsOfF :=
  ⟨fun p g => ⟨p.setFlags_flags g, g.pack_toNat⟩, fun p => ⟨rfl, p.holds_iff⟩⟩

/-! ## Echo RAM (O23) -/

theorem plainStorage_of_wram {a : Word} (h : regionOf a = .wram) : plainStorage a = true :=
  (plainStorage_iff a).2 (.inr (.inl h))

theorem plainStorage_of_echo {a : Word} (h : regionOf a = .echo) : plainStorage a = true :=
  (plainStorage_iff a).2 (.inr (.inr (.inl h)))

/-- Two addresses of plain storage with the same home read alike. -/
theorem memRead_of_sameHome {s : State} {a b : Word} (ha : plainStorage a = true) (hb : plainStorage b = true)
    (h : ramHome s.params a = ramHome s.params b) : memRead s a = memRead s b := by
  rw [memRead_plain s ha, memRead_plain s hb, h]

/-- Two addresses of plain storage with the same home take the same write. -/
theorem memWrite_of_sameHome {s : State} {a b : Word} (ha : plainStorage a = true) (hb : plainStorage b = true)
    (h : ramHome s.params a = ramHome s.params b) (v : Byte) : memWrite s a v = memWrite s b v := by
  rw [memWrite_plain s ha, memWrite_plain s hb, h]

/-- An echo address and the work-RAM address of its offset are one location (R45). -/
theorem echo_sameLocation {s : State} {a b : Word} (ha : regionOf a = .echo)
    (hb : b.toNat = 0xC000 + Params.echoOffset s.params a.toNat) (v : Byte) :
    memRead s a = memRead s b ∧ memWrite s a v = memWrite s b v := by
  have hlt := echoOffset_lt s.params a.toNat
  have hw : regionOf b = .wram := regionOf_wram (by omega) (by omega)
  have hhome : ramHome s.params a = ramHome s.params b := by
    rw [ramHome_echo s.params ha, ramHome_self s.params (by simp [hw]), hb]
  exact ⟨memRead_of_sameHome (plainStorage_of_echo ha) (plainStorage_of_wram hw) hhome,
    memWrite_of_sameHome (plainStorage_of_echo ha) (plainStorage_of_wram hw) hhome v⟩

/-- Settles O23: an echo address and the work-RAM address of its offset have the same home. -/
theorem echoRamMirrorsWorkRam : Obligations.EchoRamMirrorsWorkRam := by
  intro s a v h0 h1
  have hlt := echoOffset_lt s.params a.toNat
  have hecho := regionOf_echo h0 h1
  obtain ⟨hread, hwrite⟩ := echo_sameLocation (s := s)
    (b := 0xC000#16 + BitVec.ofNat 16 (Params.echoOffset s.params a.toNat)) hecho
    (by rw [BitVec.toNat_add]; simp only [BitVec.toNat_ofNat]; omega) v
  refine ⟨hlt, hread, hwrite, fun hplain => echo_sameLocation hecho ?_ v⟩
  rw [echoOffset_plain hplain h0 h1, BitVec.toNat_sub]
  simp only [BitVec.toNat_ofNat]; omega

end Sys2Proof.Machine
namespace Sys2Proof

/-! ## What a launch makes of an image (O28) -/

/-- The storage that holds the values of `l` from key `k` on reads as `l` from there. -/
theorem Sparse.read_ofList {w : Nat} (k : Nat) (l : List (BitVec w)) (n : Nat) :
    Sparse.read (Sparse.ofList k l) (k + n) = l.getD n (unlisted w) := by
  induction l generalizing k n with
  | nil => rfl
  | cons v r ih =>
    unfold Sparse.ofList
    cases n with
    | zero =>
      split
      · rename_i hv
        rw [hv]
        exact Sparse.read_below (Sparse.wfFrom_ofList (k + 1) r) (Nat.lt_succ_self k)
      · simp
    | succ n =>
      have htail : Sparse.read (Sparse.ofList (k + 1) r) (k + (n + 1)) = (v :: r).getD (n + 1) (unlisted w) := by
        rw [show k + (n + 1) = k + 1 + n by omega, ih, List.getD_cons_succ]
      split
      · exact htail
      · rw [Sparse.read_cons, if_neg (by simp), htail]

/-- An image placed in storage reads as its bytes. -/
theorem Memory.read_ofBytes (bs : List Byte) (n : Nat) : Memory.read (Memory.ofBytes bs) n = bs.getD n 0#8 := by
  have h := Sparse.read_ofList 0 bs n
  rwa [Nat.zero_add] at h

namespace Machine

/-- The entry after the run of non-zero bytes is zero, or there is none. -/
theorem getD_length_takeWhile_nonzero (l : List Byte) : l.getD (l.takeWhile (· != 0#8)).length 0#8 = 0#8 := by
  induction l with
  | nil => rfl
  | cons v r ih =>
    by_cases h : v = 0#8
    · simp [h]
    · rw [List.takeWhile_cons_of_pos (by simpa using h), List.length_cons, List.getD_cons_succ, ih]

/-- The run of non-zero bytes is the start of the list, and holds no zero. -/
theorem getD_takeWhile_nonzero (l : List Byte) {i : Nat} (hi : i < (l.takeWhile (· != 0#8)).length) :
    (l.takeWhile (· != 0#8)).getD i 0#8 = l.getD i 0#8 ∧ l.getD i 0#8 ≠ 0#8 := by
  have heq : (l.takeWhile (· != 0#8)).getD i 0#8 = l.getD i 0#8 := by
    conv_rhs => rw [← List.takeWhile_append_dropWhile (p := (· != 0#8)) (l := l)]
    exact (List.getD_append _ _ 0#8 i hi).symm
  have hne := List.mem_takeWhile_imp (List.getElem_mem hi)
  refine ⟨heq, heq ▸ ?_⟩
  rw [List.getD_eq_getElem _ _ hi]
  simpa using hne

/-- The sixteen bytes the title is cut from (R70). -/
theorem getD_titleBytes (image : List Byte) {i : Nat} (hi : i < 16) :
    ((image.drop 0x134).take 16).getD i 0#8 = image.getD (0x134 + i) 0#8 := by
  simp [List.getD_eq_getElem?_getD, hi]

theorem titleOf_length_le (image : List Byte) : (titleOf image).length ≤ 16 :=
  (List.takeWhile_sublist _).length_le.trans (List.length_take_le _ _)

/-- A title shorter than its field ends at a zero byte (R70). -/
theorem titleOf_terminated (image : List Byte) (h : (titleOf image).length < 16) :
    image.getD (0x134 + (titleOf image).length) 0#8 = 0#8 := by
  rw [← getD_titleBytes image h]
  exact getD_length_takeWhile_nonzero _

/-- The title's bytes are the header's, none of them zero (R70). -/
theorem titleOf_getD (image : List Byte) {i : Nat} (hi : i < (titleOf image).length) :
    (titleOf image).getD i 0#8 = image.getD (0x134 + i) 0#8 ∧ image.getD (0x134 + i) 0#8 ≠ 0#8 := by
  rw [← getD_titleBytes image (hi.trans_le (titleOf_length_le image))]
  exact getD_takeWhile_nonzero _ hi

/-- The header types, listed one by one (R71). -/
theorem controllerOf_eq (t : Nat) : controllerOf t =
    if t = 0 then some .none
    else if t = 1 ∨ t = 2 ∨ t = 3 then some (.mbc1 Mbc1.reset)
    else if t = 0x0F ∨ t = 0x10 ∨ t = 0x11 ∨ t = 0x12 ∨ t = 0x13 then some (.mbc3 Mbc3.reset)
    else none := by
  have h1 : (0x01 ≤ t ∧ t ≤ 0x03) ↔ (t = 1 ∨ t = 2 ∨ t = 3) := by omega
  have h3 : (0x0F ≤ t ∧ t ≤ 0x13) ↔ (t = 0x0F ∨ t = 0x10 ∨ t = 0x11 ∨ t = 0x12 ∨ t = 0x13) := by omega
  simp only [controllerOf, h1, h3]

/-- A controller is selected with its registers after reset. -/
theorem controllerOf_cases {t : Nat} {k : Controller} (h : controllerOf t = some k) :
    k = .none ∨ k = .mbc1 Mbc1.reset ∨ k = .mbc3 Mbc3.reset := by
  unfold controllerOf at h
  split_ifs at h <;> simp_all

/-- The RAM size codes are 0 to 5 (R70). -/
theorem ramSizeOf_eq (code : Nat) : ramSizeOf code =
    if code ≤ 5 then some ([0, 0, 8192, 32768, 131072, 65536].getD code 0) else none := by
  split
  · rename_i h
    rw [List.getD_eq_getElem _ _ (by simp; omega)]
    exact List.getElem?_eq_getElem _
  · rename_i h
    exact List.getElem?_eq_none (by simp; omega)

/-- The RAM size the header of an image selects. -/
def headerRamSize (image : List Byte) : Nat :=
  [0, 0, 8192, 32768, 131072, 65536].getD (image.getD 0x149 0#8).toNat 0

/-- The bank count the header of an image selects. -/
def headerBanks (image : List Byte) : Nat := 2 * 2 ^ (image.getD 0x148 0#8).toNat

/-- The cartridge an accepted image makes: its header decoded, the image and the saved external RAM in place. -/
def Cart.ofImage (image saved : List Byte) (k : Controller) : Cart :=
  { rom := Memory.ofBytes image, title := titleOf image, bankCount := headerBanks image, ramSize := headerRamSize image
    ctrl := k, xram := Memory.ofBytes (saved.take (headerRamSize image)) }

/-- The launch premises of R70 and R71 on an image whose type selects the controller `k`. -/
def LaunchPremises (image : List Byte) (k : Controller) : Prop :=
  (image.getD 0x149 0#8).toNat ≤ 5 ∧ headerBanks image ≤ 128 ∧
    image.length = 32768 * 2 ^ (image.getD 0x148 0#8).toNat ∧
    (k = .none → image.length = 32768 ∧ headerRamSize image = 0)

section Launch

variable {p : Params} {ram : Memory} {image saved : List Byte} {k : Controller}

theorem launch_unsupported (h : controllerOf (image.getD 0x147 0#8).toNat = none) :
    launch p ram image saved = .refused .unsupportedCartridge := by
  simp only [launch, Cart.load, h]

/-- The test `Cart.load` makes once the RAM size is known, in the words of the launch premises. -/
theorem load_test_iff (hr : (image.getD 0x149 0#8).toNat ≤ 5) :
    (2 * 2 ^ (image.getD 0x148 0#8).toNat ≤ 128 ∧ image.length = 2 * 2 ^ (image.getD 0x148 0#8).toNat * 0x4000 ∧
      (k = .none → 2 * 2 ^ (image.getD 0x148 0#8).toNat = 2 ∧ headerRamSize image = 0)) ↔ LaunchPremises image k := by
  unfold LaunchPremises headerBanks
  generalize 2 ^ (image.getD 0x148 0#8).toNat = n
  constructor
  · rintro ⟨hb, hl, hk⟩
    refine ⟨hr, hb, by omega, fun h => ?_⟩
    obtain ⟨h2, h0⟩ := hk h
    exact ⟨by omega, h0⟩
  · rintro ⟨-, hb, hl, hk⟩
    refine ⟨hb, by omega, fun h => ?_⟩
    obtain ⟨h2, h0⟩ := hk h
    exact ⟨by omega, h0⟩

theorem launch_accepted (hk : controllerOf (image.getD 0x147 0#8).toNat = some k) (h : LaunchPremises image k) :
    launch p ram image saved =
      .next { State.reset with params := p, ram := ram, cart := Cart.ofImage image saved k } := by
  simp only [launch, Cart.load, hk, ramSizeOf_eq, if_pos h.1]
  have hload := (load_test_iff h.1).2 h
  unfold headerRamSize at hload
  rw [if_pos hload]
  rfl

theorem launch_malformed (hk : controllerOf (image.getD 0x147 0#8).toNat = some k) (h : ¬ LaunchPremises image k) :
    launch p ram image saved = .refused .malformedCartridge := by
  simp only [launch, Cart.load, hk, ramSizeOf_eq]
  by_cases hr : (image.getD 0x149 0#8).toNat ≤ 5
  · have hload := mt (load_test_iff hr).1 h
    unfold headerRamSize at hload
    simp only [if_pos hr]
    rw [if_neg hload]
  · simp only [if_neg hr]

/-- `2 << code` up to 128 is a legal bank count (R70). -/
theorem bankCountLegal_ofImage (h : headerBanks image ≤ 128) : (Cart.ofImage image saved k).bankCountLegal = true := by
  unfold Cart.bankCountLegal Cart.ofImage
  unfold headerBanks at h ⊢
  generalize (image.getD 0x148 0#8).toNat = code at h ⊢
  have hcode : code ≤ 6 := (Nat.pow_le_pow_iff_right (le_refl 2)).1 (by omega : 2 ^ code ≤ 2 ^ 6)
  interval_cases code <;> rfl

/-- A controller's reset registers select a bank of the image (R31, R73). -/
theorem bankInImage_ofImage {t : Nat} (hk : controllerOf t = some k) : (Cart.ofImage image saved k).bankInImage = true := by
  have hpos : 0 < 2 ^ (image.getD 0x148 0#8).toNat := Nat.two_pow_pos _
  rcases controllerOf_cases hk with rfl | rfl | rfl
  · rfl
  · refine Bool.and_eq_true_iff.2 ⟨rfl, decide_eq_true ?_⟩
    show 1 < 2 * 2 ^ (image.getD 0x148 0#8).toNat
    omega
  · rfl

/-- An accepted launch starts inside the invariant. -/
theorem inv_launched {t : Nat} (hram : Memory.wf ram = true) (hk : controllerOf t = some k) (h : headerBanks image ≤ 128) :
    State.inv { State.reset with params := p, ram := ram, cart := Cart.ofImage image saved k } = true := by
  have hmem : State.memoriesWf { State.reset with params := p, ram := ram, cart := Cart.ofImage image saved k } = true := by
    simp only [State.memoriesWf, Cart.ofImage, hram, Memory.wf_ofBytes]
    rfl
  simp only [State.inv, hmem, bankCountLegal_ofImage h, bankInImage_ofImage hk]
  rfl

/-- The saved external RAM is in place as far as the buffer reaches (R300). -/
theorem ofImage_xram_read {n : Nat} (h : n < headerRamSize image) :
    Memory.read (Cart.ofImage image saved k).xram n = saved.getD n 0#8 := by
  rw [Cart.ofImage, Memory.read_ofBytes, List.getD_eq_getElem?_getD, List.getElem?_take, if_pos h,
    ← List.getD_eq_getElem?_getD]

end Launch

/-- Settles O28: the three outcomes of a launch, and the accepted cartridge item by item. -/
theorem launchDecodesTheHeader : Obligations.LaunchDecodesTheHeader := by
  intro p ram image saved hram byte code kind ramSize
  have hkind : kind = controllerOf (image.getD 0x147 0#8).toNat := (controllerOf_eq _).symm
  refine ⟨fun h => launch_unsupported (hkind ▸ h), fun k h => ?_⟩
  have hk : controllerOf (image.getD 0x147 0#8).toNat = some k := hkind ▸ h
  refine ⟨fun hacc => ?_, fun hrej => launch_malformed hk hrej⟩
  exact ⟨_, launch_accepted hk hacc, inv_launched hram hk hacc.2.1, rfl, rfl, rfl, rfl, titleOf_length_le image,
    titleOf_terminated image, fun i hi => titleOf_getD image hi, fun n _ => Memory.read_ofBytes image n,
    fun n hn _ => ofImage_xram_read hn⟩

end Machine

end Sys2Proof
namespace Sys2Proof.Machine

/-! ## Rendering a line: the passes, one rule each (O41, O42, O44) -/

/-- A fold keeps what each of its steps keeps. -/
theorem foldl_keeps {α β γ : Type} (g : β → γ) (f : β → α → β) (l : List α) (hf : ∀ q, ∀ x ∈ l, g (f q x) = g q) (p : β) :
    g (l.foldl f p) = g p :=
  List.foldlRecOn l f (motive := fun q => g q = g p) rfl (fun q hq x hx => (hf q x hx).trans hq)

section Plot

variable (d : Screen) (p : Ppu) (ram : Memory) (ly : Nat)

/-- A line past the framebuffer has no entry to paint (log 21). -/
theorem Ppu.paint_past {d : Screen} {ly : Nat} (h : d.h ≤ ly) (x : Nat) (v : BitVec 2) : (p.paint d ly x v).fb = p.fb :=
  if_neg (Nat.not_lt.2 h)

/-- Painting column `x` of a line of the framebuffer, read at column `j`. -/
theorem Ppu.paint_fb_read {d : Screen} {ly : Nat} (h : ly < d.h) (x j : Nat) (v : BitVec 2) :
    (p.paint d ly x v).fb.read (fbKey d ly j) = if x = j then v else p.fb.read (fbKey d ly j) := by
  have hkey : fbKey d ly x = fbKey d ly j ↔ x = j := Nat.add_right_cancel_iff
  simp only [Ppu.paint, if_pos h, Sparse.read_write, hkey]

theorem Ppu.plot_bgidx_read (x j : Nat) (idx : BitVec 2) :
    (p.plot d ly x idx).bgidx.read j = if x = j then idx else p.bgidx.read j := Sparse.read_write ..

theorem Ppu.plot_fb_read {d : Screen} {ly : Nat} (h : ly < d.h) (x j : Nat) (idx : BitVec 2) :
    (p.plot d ly x idx).fb.read (fbKey d ly j) = if x = j then shade p.bgp idx else p.fb.read (fbKey d ly j) :=
  Ppu.paint_fb_read _ h x j _

/-- Plot the columns of a list, each with its index: what the window and the background pass do. -/
def Ppu.plotAll (index : Nat → BitVec 2) (xs : List Nat) : Ppu := xs.foldl (fun q x => q.plot d ly x (index x)) p

variable (index : Nat → BitVec 2) (xs : List Nat)

theorem Ppu.plotAll_keeps {γ : Type} (g : Ppu → γ) (hg : ∀ (q : Ppu) x idx, g (q.plot d ly x idx) = g q) :
    g (p.plotAll d ly index xs) = g p := foldl_keeps g _ xs (fun q x _ => hg q x _) p

theorem Ppu.plotAll_bgidx_read (j : Nat) :
    (p.plotAll d ly index xs).bgidx.read j = if j ∈ xs then index j else p.bgidx.read j := by
  unfold Ppu.plotAll
  induction xs generalizing p with
  | nil => rfl
  | cons x xs ih =>
    rw [List.foldl_cons, ih, Ppu.plot_bgidx_read]
    by_cases hj : x = j
    · subst hj; simp
    · simp [hj, Ne.symm hj]

theorem Ppu.plotAll_fb_read {d : Screen} {ly : Nat} (h : ly < d.h) (j : Nat) :
    (p.plotAll d ly index xs).fb.read (fbKey d ly j) =
      if j ∈ xs then shade p.bgp (index j) else p.fb.read (fbKey d ly j) := by
  unfold Ppu.plotAll
  induction xs generalizing p with
  | nil => rfl
  | cons x xs ih =>
    rw [List.foldl_cons, ih, Ppu.plot_fb_read p h]
    by_cases hj : x = j
    · subst hj; simp [Ppu.plot, Ppu.paint]
    · simp [hj, Ne.symm hj, Ppu.plot, Ppu.paint]

end Plot

section Backdrop

variable (d : Screen) (p q : Ppu) (ram : Memory) (ly : Nat)

/-- The columns of a line the window covers, when it is drawn. -/
def Ppu.windowColumns : List Nat := (List.range d.w).filter p.windowReaches

/-- The columns of a line the background covers (R342). -/
def Ppu.backgroundColumns : List Nat := (List.range d.w).filter (fun x => !(p.windowDraws d && p.windowReaches x))

theorem Ppu.mem_windowColumns {x : Nat} : x ∈ p.windowColumns d ↔ x < d.w ∧ p.windowReaches x = true := by
  simp [Ppu.windowColumns]

theorem Ppu.mem_backgroundColumns {x : Nat} :
    x ∈ p.backgroundColumns d ↔ x < d.w ∧ ¬ (p.windowDraws d = true ∧ p.windowReaches x = true) := by
  rw [Ppu.backgroundColumns, List.mem_filter, List.mem_range, Bool.not_eq_true', ← Bool.not_eq_true, Bool.and_eq_true]

theorem Ppu.windowPass_of_draws {d : Screen} {p : Ppu} (h : p.windowDraws d = true) :
    p.windowPass d ram ly =
      { p.plotAll d ly (p.windowPixel ram) (p.windowColumns d) with winLine := p.winLine + 1 } := if_pos h

theorem Ppu.windowPass_of_not_draws {d : Screen} {p : Ppu} (h : ¬ p.windowDraws d = true) : p.windowPass d ram ly = p := if_neg h

theorem Ppu.backgroundPass_eq :
    q.backgroundPass p d ram ly = q.plotAll d ly (p.backgroundPixel ram ly) (p.backgroundColumns d) := rfl

/-- The line with its window and background columns drawn, before its sprites. -/
def Ppu.backdrop : Ppu := ((p.latchWindow ly).windowPass d ram ly).backgroundPass (p.latchWindow ly) d ram ly

/-- Rendering is the backdrop, then the sprites (R339). -/
theorem Ppu.renderLine_eq : p.renderLine d ram ly = (p.backdrop d ram ly).spritePass d ram ly := rfl

theorem painted_backdrop : Painted d p (p.backdrop d ram ly) ly :=
  ((painted_latch d p ly).trans (painted_window d _ ram ly)).trans (painted_background d _ _ ram ly)

/-- The colour index of column `x`: the window's where it is drawn and reaches, else the background's. -/
def Ppu.columnIndex (x : Nat) : BitVec 2 :=
  if p.windowDraws d = true ∧ p.windowReaches x = true then p.windowPixel ram x else p.backgroundPixel ram ly x

theorem Ppu.latchWindow_winInFrame : (p.latchWindow ly).winInFrame = true ↔ p.winInFrame = true ∨ ly = p.wy.toNat := by
  unfold Ppu.latchWindow; split <;> simp [*]

/-- The window latch writes the frame flag only. -/
theorem Ppu.latchWindow_eq : p.latchWindow ly = { p with winInFrame := (p.latchWindow ly).winInFrame } := by
  unfold Ppu.latchWindow; split <;> rfl

variable {d ly} {x : Nat}

/-- What the two passes leave of column `x`, for an observation `g` of it that plotting the column sets to `val` of its index:
the value of the column's index, whichever of the passes plots it (R340, R342). -/
theorem Ppu.passes_read {γ : Type} (g : Ppu → γ) (val : BitVec 2 → γ)
    (hplot : ∀ q : Ppu, q.bgp = p.bgp → ∀ index xs,
      g (q.plotAll d ly index xs) = if x ∈ xs then val (index x) else g q)
    (hline : ∀ (q : Ppu) n, g { q with winLine := n } = g q) (hx : x < d.w) :
    g ((p.windowPass d ram ly).backgroundPass p d ram ly) = val (p.columnIndex d ram ly x) := by
  have hbgp : (p.windowPass d ram ly).bgp = p.bgp := by rw [(painted_window d p ram ly).eq]
  rw [Ppu.backgroundPass_eq, hplot _ hbgp, Ppu.columnIndex]
  by_cases hw : p.windowDraws d = true ∧ p.windowReaches x = true
  · have hbg : x ∉ p.backgroundColumns d := fun h => ((p.mem_backgroundColumns d).1 h).2 hw
    have hwin : x ∈ p.windowColumns d := (p.mem_windowColumns d).2 ⟨hx, hw.2⟩
    rw [if_neg hbg, if_pos hw, Ppu.windowPass_of_draws ram ly hw.1, hline, hplot p rfl, if_pos hwin]
  · rw [if_pos ((p.mem_backgroundColumns d).2 ⟨hx, hw⟩), if_neg hw]

theorem Ppu.backdrop_bgidx_read (hx : x < d.w) :
    (p.backdrop d ram ly).bgidx.read x = (p.latchWindow ly).columnIndex d ram ly x :=
  Ppu.passes_read _ ram (fun q => q.bgidx.read x) id (fun q _ _ _ => q.plotAll_bgidx_read ..) (fun _ _ => rfl) hx

/-- The backdrop of a column is the shade of the index in the line buffer. -/
theorem Ppu.backdrop_fb_read (hly : ly < d.h) (hx : x < d.w) :
    (p.backdrop d ram ly).fb.read (fbKey d ly x) = shade p.bgp ((p.backdrop d ram ly).bgidx.read x) := by
  rw [Ppu.backdrop_bgidx_read p ram hx, show p.bgp = (p.latchWindow ly).bgp by rw [Ppu.latchWindow_eq]]
  exact Ppu.passes_read _ ram (fun q => q.fb.read (fbKey d ly x)) (shade _)
    (fun q hq _ _ => hq ▸ q.plotAll_fb_read _ _ hly x) (fun _ _ => rfl) hx

end Backdrop

/-! ## A rendered line keeps to its own entries (O41) -/

section PastTheScreen

variable {d : Screen} {ly : Nat} (h : d.h ≤ ly) (p : Ppu) (ram : Memory)
include h

theorem Ppu.plotAll_fb_past (index : Nat → BitVec 2) (xs : List Nat) : (p.plotAll d ly index xs).fb = p.fb :=
  Ppu.plotAll_keeps d p ly index xs Ppu.fb (fun _ x _ => Ppu.paint_past _ h x _)

theorem spritePixel_fb_past (o : Sprite) (c : Nat) : (p.spritePixel d ram ly o c).fb = p.fb := by
  rcases spritePixel_cases d p ram ly o c with hp | ⟨x, -, v, hp⟩ <;> rw [hp]
  exact p.paint_past h x v

theorem spritePass_fb_past : (p.spritePass d ram ly).fb = p.fb := by
  unfold Ppu.spritePass
  split
  · exact foldl_keeps Ppu.fb _ _ (fun q o _ => foldl_keeps Ppu.fb _ _ (fun q c _ => spritePixel_fb_past h q ram o c) q) p
  · rfl

theorem windowPass_fb_past : (p.windowPass d ram ly).fb = p.fb := by
  by_cases hw : p.windowDraws d = true
  · rw [Ppu.windowPass_of_draws ram ly hw]
    exact Ppu.plotAll_fb_past h p _ _
  · rw [Ppu.windowPass_of_not_draws ram ly hw]

/-- A line past the framebuffer leaves it alone (log 21). -/
theorem renderLine_fb_past : (p.renderLine d ram ly).fb = p.fb :=
  calc (p.renderLine d ram ly).fb
    _ = (p.backdrop d ram ly).fb := spritePass_fb_past h _ ram
    _ = ((p.latchWindow ly).windowPass d ram ly).fb := Ppu.plotAll_fb_past h _ _ _
    _ = (p.latchWindow ly).fb := windowPass_fb_past h _ ram
    _ = p.fb := by rw [Ppu.latchWindow_eq]

end PastTheScreen

/-- Settles O41: what a pass may paint, and that past the framebuffer it paints nothing. -/
theorem renderingTouchesOnlyItsLine : Obligations.RenderingTouchesOnlyItsLine := by
  intro d p ram ly
  have hpainted := painted_renderLine d p ram ly
  exact ⟨hpainted.eq, hpainted.far, fun h => renderLine_fb_past h p ram⟩

/-! ## Window, background and shade of a column (O42) -/

/-- `Shade` in arithmetic (R344): the palette's base-4 digit at the index, as the two low bits. -/
theorem shade_eq (pal : Byte) (idx : BitVec 2) : shade pal idx = BitVec.ofNat 2 (pal.toNat / 4 ^ idx.toNat) := by
  apply BitVec.eq_of_toNat_eq
  have hpow : 2 ^ (2 * idx.toNat) = 4 ^ idx.toNat := by rw [pow_mul]; norm_num
  simp [shade, BitVec.extractLsb'_toNat, Nat.shiftRight_eq_div_pow, hpow]

section Columns

variable (d : Screen) (p : Ppu) (ram : Memory) (ly : Nat)

/-- `win_draw` of R340 in its own words, after the latch of R341. -/
theorem Ppu.windowDraws_latch_iff : (p.latchWindow ly).windowDraws d = true ↔
    p.lcdc.getLsbD 5 = true ∧ (p.winInFrame = true ∨ ly = p.wy.toNat) ∧ (p.wx.toNat : Int) - 7 ≤ (d.w : Int) - 1 := by
  have hedge : p.wx.toNat < d.w + 7 ↔ (p.wx.toNat : Int) - 7 ≤ (d.w : Int) - 1 := by omega
  rw [← Ppu.latchWindow_winInFrame, ← hedge, Ppu.latchWindow_eq]
  simp [Ppu.windowDraws, and_assoc]

theorem Ppu.windowReaches_iff (x : Nat) : p.windowReaches x = true ↔ (p.wx.toNat : Int) - 7 ≤ x := by
  rw [Ppu.windowReaches, decide_eq_true_eq]; omega

/-- The index of a column of a rendered line, the window's premises spelled out (R340 to R342). -/
theorem Ppu.columnIndex_latch (x : Nat) : (p.latchWindow ly).columnIndex d ram ly x =
    if p.lcdc.getLsbD 5 = true ∧ (p.winInFrame = true ∨ ly = p.wy.toNat) ∧ (p.wx.toNat : Int) - 7 ≤ (d.w : Int) - 1 ∧
      (p.wx.toNat : Int) - 7 ≤ x then p.windowPixel ram x else p.backgroundPixel ram ly x := by
  have hreach : (p.latchWindow ly).windowReaches x = true ↔ (p.wx.toNat : Int) - 7 ≤ x := by
    rw [Ppu.latchWindow_eq]; exact p.windowReaches_iff x
  have hwin : (p.latchWindow ly).windowPixel ram x = p.windowPixel ram x := by rw [Ppu.latchWindow_eq]; rfl
  have hback : (p.latchWindow ly).backgroundPixel ram ly x = p.backgroundPixel ram ly x := by rw [Ppu.latchWindow_eq]; rfl
  simp only [Ppu.columnIndex, Ppu.windowDraws_latch_iff, hreach, hwin, hback, and_assoc]

theorem renderLine_bgidx : (p.renderLine d ram ly).bgidx = (p.backdrop d ram ly).bgidx := by
  rw [Ppu.renderLine_eq, spritePass_keeps]

/-- Rendering leaves the frame flag as the latch sets it. -/
theorem renderLine_winInFrame : (p.renderLine d ram ly).winInFrame = (p.latchWindow ly).winInFrame := by
  rw [Ppu.renderLine_eq, spritePass_keeps]
  refine (Ppu.plotAll_keeps d _ ly _ _ Ppu.winInFrame (fun _ _ _ => rfl)).trans ?_
  by_cases hw : (p.latchWindow ly).windowDraws d = true
  · rw [Ppu.windowPass_of_draws ram ly hw]
    exact Ppu.plotAll_keeps d _ ly _ _ Ppu.winInFrame (fun _ _ _ => rfl)
  · rw [Ppu.windowPass_of_not_draws ram ly hw]

/-- The window's line counter moves on exactly when the window is drawn (R340). -/
theorem renderLine_winLine : (p.renderLine d ram ly).winLine =
    if (p.latchWindow ly).windowDraws d = true then p.winLine + 1 else p.winLine := by
  rw [Ppu.renderLine_eq, spritePass_keeps]
  have hlatch : (p.latchWindow ly).winLine = p.winLine := by rw [Ppu.latchWindow_eq]
  refine (Ppu.plotAll_keeps d _ ly _ _ Ppu.winLine (fun _ _ _ => rfl)).trans ?_
  by_cases hw : (p.latchWindow ly).windowDraws d = true
  · rw [Ppu.windowPass_of_draws ram ly hw, if_pos hw, hlatch]
  · rw [Ppu.windowPass_of_not_draws ram ly hw, if_neg hw, hlatch]

theorem spritePass_off {p : Ppu} (h : p.lcdc.getLsbD 1 = false) : p.spritePass d ram ly = p := by
  simp only [Ppu.spritePass, h, Bool.false_eq_true, if_false]

/-- With sprites off a rendered line shows its backdrop. -/
theorem renderLine_off {p : Ppu} (h : p.lcdc.getLsbD 1 = false) : p.renderLine d ram ly = p.backdrop d ram ly := by
  rw [Ppu.renderLine_eq]
  exact spritePass_off d ram ly (by rw [(painted_backdrop d p ram ly).eq]; exact h)

end Columns

/-- Settles O42: the two window items, then each column by the pass that plots it. -/
theorem everyColumnIsWindowOrBackground : Obligations.EveryColumnIsWindowOrBackground := by
  intro d p ram ly q edge active drawn
  have hdraws : (p.latchWindow ly).windowDraws d = true ↔ drawn := p.windowDraws_latch_iff d ly
  refine ⟨?_, fun h => ?_, fun h => ?_, ?_⟩
  · rw [renderLine_winInFrame]
    exact p.latchWindow_winInFrame ly
  · exact (renderLine_winLine d p ram ly).trans (if_pos (hdraws.2 h))
  · exact (renderLine_winLine d p ram ly).trans (if_neg (mt hdraws.1 h))
  · intro x hx idx
    have hidx : (p.backdrop d ram ly).bgidx.read x = idx :=
      (p.backdrop_bgidx_read ram hx).trans (p.columnIndex_latch d ram ly x)
    refine ⟨?_, fun hoff hly => ?_⟩
    · rw [renderLine_bgidx, hidx]
    · rw [← shade_eq, ← hidx, ← p.backdrop_fb_read ram hly hx, ← renderLine_off d ram ly hoff]
      rfl

end Sys2Proof.Machine
namespace Sys2Proof.Machine

/-! ## The sprite pass (O44) -/

section Pixel

variable (d : Screen) (p q : Ppu) (ram : Memory) (ly : Nat) (o : Sprite) (c x : Nat)

/-- The colour index of pixel `c` of a sprite on line `ly` (R343). -/
def Ppu.spriteIndex : BitVec 2 :=
  tilePixel ram (0x8000 + 16 * o.tileAt (spriteHeight p.lcdc) (o.row (spriteHeight p.lcdc) ly))
    (o.row (spriteHeight p.lcdc) ly % 8) (if o.attr.getLsbD 5 then 7 - c else c)

/-- The shade of pixel `c` of a sprite, by the palette its `attr` byte selects (R343). -/
def Ppu.spriteColour : BitVec 2 := shade (if o.attr.getLsbD 4 then p.obp1 else p.obp0) (p.spriteIndex ram ly o c)

/-- Pixel `c` of the sprite is at column `x`, and is neither transparent nor behind the background (R343). -/
def Ppu.Shows : Prop :=
  o.x.toNat + c = x + 8 ∧ p.spriteIndex ram ly o c ≠ 0#2 ∧ ¬ (o.attr.getLsbD 7 = true ∧ p.bgidx.read x ≠ 0#2)

theorem spritePixel_eq : p.spritePixel d ram ly o c =
    if o.x.toNat + c < 8 ∨ d.w ≤ o.x.toNat + c - 8 then p
    else if p.spriteIndex ram ly o c = 0#2 then p
    else if o.attr.getLsbD 7 && p.bgidx.read (o.x.toNat + c - 8) != 0#2 then p
    else p.paint d ly (o.x.toNat + c - 8) (p.spriteColour ram ly o c) := rfl

variable {d p q ram ly o c x}

/-- A pixel that shows on the screen is painted. -/
theorem spritePixel_of_shows (hx : x < d.w) (h : p.Shows ram ly o c x) :
    p.spritePixel d ram ly o c = p.paint d ly x (p.spriteColour ram ly o c) := by
  obtain ⟨hcol, hidx, hprio⟩ := h
  have hx' : o.x.toNat + c - 8 = x := by omega
  rw [spritePixel_eq, if_neg (by omega), if_neg hidx, hx', if_neg (by simpa using hprio)]

/-- A pixel that shows in no column of the screen changes nothing. -/
theorem spritePixel_of_not_shows (h : ∀ x < d.w, ¬ p.Shows ram ly o c x) : p.spritePixel d ram ly o c = p := by
  rw [spritePixel_eq]
  split_ifs with hclip hidx hprio
  · rfl
  · rfl
  · rfl
  · exact absurd ⟨by omega, hidx, by simpa using hprio⟩ (h (o.x.toNat + c - 8) (by omega))

/-- `q` is `p` but for the framebuffer: the two agree on where sprites show, and in which colour. -/
def SameScene (p q : Ppu) : Prop := q = { p with fb := q.fb }

theorem SameScene.trans {r : Ppu} (h : SameScene p q) (h' : SameScene q r) : SameScene p r := by
  unfold SameScene at *
  rw [h', h]

theorem SameScene.shows_iff (h : SameScene p q) : q.Shows ram ly o c x ↔ p.Shows ram ly o c x := by rw [h]; rfl

theorem SameScene.colour (h : SameScene p q) : q.spriteColour ram ly o c = p.spriteColour ram ly o c := by rw [h]; rfl

theorem sameScene_spritePixel : SameScene p (p.spritePixel d ram ly o c) := by
  rcases spritePixel_cases d p ram ly o c with h | ⟨x, -, v, h⟩ <;> rw [h] <;> rfl

/-- A pixel that does not show at column `x` leaves that column. -/
theorem spritePixel_fb_read_of_not_shows (hly : ly < d.h) (h : ¬ p.Shows ram ly o c x) :
    (p.spritePixel d ram ly o c).fb.read (fbKey d ly x) = p.fb.read (fbKey d ly x) := by
  by_cases hsome : ∃ y < d.w, p.Shows ram ly o c y
  · obtain ⟨y, hy, hshows⟩ := hsome
    have hyx : y ≠ x := fun e => h (e ▸ hshows)
    rw [spritePixel_of_shows hy hshows, Ppu.paint_fb_read p hly, if_neg hyx]
  · rw [spritePixel_of_not_shows (fun y hy hs => hsome ⟨y, hy, hs⟩)]

/-- A pixel that shows at column `x` gives that column its colour. -/
theorem spritePixel_fb_read_of_shows (hly : ly < d.h) (hx : x < d.w) (h : p.Shows ram ly o c x) :
    (p.spritePixel d ram ly o c).fb.read (fbKey d ly x) = p.spriteColour ram ly o c := by
  rw [spritePixel_of_shows hx h, Ppu.paint_fb_read p hly, if_pos rfl]

end Pixel

section Pass

variable {d : Screen} {p : Ppu} {ram : Memory} {ly : Nat} {o : Sprite} {x : Nat}

/-- Draw the pixels `cs` of one sprite, in order. -/
def Ppu.drawPixels (d : Screen) (ram : Memory) (ly : Nat) (o : Sprite) (cs : List Nat) (p : Ppu) : Ppu :=
  cs.foldl (fun q c => q.spritePixel d ram ly o c) p

/-- Draw a list of sprites, the last of the list first: the first, of highest priority, ends on top (R343). -/
def Ppu.drawSprites (d : Screen) (ram : Memory) (ly : Nat) (os : List Sprite) (p : Ppu) : Ppu :=
  os.foldr (fun o q => q.drawPixels d ram ly o (List.range 8)) p

theorem spritePass_on (h : p.lcdc.getLsbD 1 = true) : p.spritePass d ram ly = p.drawSprites d ram ly p.sprites := by
  simp only [Ppu.spritePass, h, if_true, List.foldl_reverse]
  rfl

theorem sameScene_drawPixels (cs : List Nat) (p : Ppu) : SameScene p (p.drawPixels d ram ly o cs) :=
  List.foldlRecOn cs _ (motive := SameScene p) rfl (fun _ hq _ _ => hq.trans sameScene_spritePixel)

theorem sameScene_drawSprites (os : List Sprite) (p : Ppu) : SameScene p (p.drawSprites d ram ly os) :=
  List.foldrRecOn os _ (motive := SameScene p) rfl (fun _ hq _ _ => hq.trans (sameScene_drawPixels _ _))

/-- Pixels none of which shows at column `x` leave that column. -/
theorem drawPixels_fb_read_of_not_shows (hly : ly < d.h) {cs : List Nat} (h : ∀ c ∈ cs, ¬ p.Shows ram ly o c x) :
    (p.drawPixels d ram ly o cs).fb.read (fbKey d ly x) = p.fb.read (fbKey d ly x) := by
  induction cs generalizing p with
  | nil => rfl
  | cons c cs ih =>
    have hrest : ∀ c' ∈ cs, ¬ (p.spritePixel d ram ly o c).Shows ram ly o c' x := fun c' hc' =>
      mt sameScene_spritePixel.shows_iff.1 (h c' (List.mem_cons_of_mem c hc'))
    exact (ih hrest).trans (spritePixel_fb_read_of_not_shows hly (h c List.mem_cons_self))

/-- A sprite one of whose pixels shows at column `x` gives that column its colour: no other pixel of it is there. -/
theorem drawPixels_fb_read_of_shows (hly : ly < d.h) (hx : x < d.w) {cs : List Nat} {c : Nat} (hc : c ∈ cs)
    (h : p.Shows ram ly o c x) : (p.drawPixels d ram ly o cs).fb.read (fbKey d ly x) = p.spriteColour ram ly o c := by
  induction cs generalizing p with
  | nil => cases hc
  | cons c₀ cs ih =>
    have hscene : SameScene p (p.spritePixel d ram ly o c₀) := sameScene_spritePixel
    by_cases hmem : c ∈ cs
    · exact (ih hmem (hscene.shows_iff.2 h)).trans hscene.colour
    · obtain rfl : c = c₀ := (List.mem_cons.1 hc).resolve_right hmem
      have hrest : ∀ c' ∈ cs, ¬ (p.spritePixel d ram ly o c).Shows ram ly o c' x := fun c' hc' hs => by
        have hsame : c' = c := by have := hs.1; have := h.1; omega
        exact hmem (hsame ▸ hc')
      exact (drawPixels_fb_read_of_not_shows hly hrest).trans (spritePixel_fb_read_of_shows hly hx h)

/-- Sprites none of which shows at column `x` leave that column. -/
theorem drawSprites_fb_read_of_not_shows (hly : ly < d.h) {os : List Sprite}
    (h : ∀ o ∈ os, ∀ c < 8, ¬ p.Shows ram ly o c x) :
    (p.drawSprites d ram ly os).fb.read (fbKey d ly x) = p.fb.read (fbKey d ly x) := by
  induction os with
  | nil => rfl
  | cons o os ih =>
    have hfirst : ∀ c ∈ List.range 8, ¬ (p.drawSprites d ram ly os).Shows ram ly o c x := fun c hc =>
      mt (sameScene_drawSprites os p).shows_iff.1 (h o List.mem_cons_self c (List.mem_range.1 hc))
    exact (drawPixels_fb_read_of_not_shows hly hfirst).trans (ih (fun o' ho' => h o' (List.mem_cons_of_mem o ho')))

/-- The first sprite of the list that shows at column `x` gives that column its colour. -/
theorem drawSprites_fb_read_of_shows (hly : ly < d.h) (hx : x < d.w) {above below : List Sprite} {c : Nat}
    (habove : ∀ o ∈ above, ∀ c < 8, ¬ p.Shows ram ly o c x) (hc : c < 8) (h : p.Shows ram ly o c x) :
    (p.drawSprites d ram ly (above ++ o :: below)).fb.read (fbKey d ly x) = p.spriteColour ram ly o c := by
  have hbelow := sameScene_drawSprites (d := d) (ram := ram) (ly := ly) below p
  have hupto := sameScene_drawSprites (d := d) (ram := ram) (ly := ly) (o :: below) p
  have hsplit : p.drawSprites d ram ly (above ++ o :: below) =
      (p.drawSprites d ram ly (o :: below)).drawSprites d ram ly above := List.foldr_append
  calc (p.drawSprites d ram ly (above ++ o :: below)).fb.read (fbKey d ly x)
    _ = (p.drawSprites d ram ly (o :: below)).fb.read (fbKey d ly x) := by
      rw [hsplit]
      exact drawSprites_fb_read_of_not_shows hly (fun o' ho' c' hc' => mt hupto.shows_iff.1 (habove o' ho' c' hc'))
    _ = (p.drawSprites d ram ly below).spriteColour ram ly o c :=
      drawPixels_fb_read_of_shows hly hx (List.mem_range.2 hc) (hbelow.shows_iff.2 h)
    _ = p.spriteColour ram ly o c := hbelow.colour

end Pass

section Rule

variable {p : Ppu} {ram : Memory} {ly : Nat} {o : Sprite}

/-- Clearing bit 0 of a tile number (R343): shifted out and a zero back in. -/
theorem and_FE_toNat (t : Byte) : (t &&& 0xFE#8).toNat = t.toNat / 2 * 2 := by
  have hshift : t &&& 0xFE#8 = (t >>> 1) <<< 1 := by
    ext i hi
    interval_cases i <;> simp
  have hlt := t.isLt
  rw [hshift, BitVec.toNat_shiftLeft, BitVec.toNat_ushiftRight, Nat.shiftRight_eq_div_pow, Nat.shiftLeft_eq]
  omega

/-- The tile of a row, in arithmetic (R343): a double-height sprite has an even tile and the one after it. -/
theorem Sprite.tileAt_eq (o : Sprite) (h : Nat) {row : Nat} (hrow : row < 16) :
    o.tileAt h row = if h = 8 then o.tile.toNat else o.tile.toNat / 2 * 2 + row / 8 := by
  have hor : 2 ^ 1 * (o.tile.toNat / 2) + row / 8 = 2 ^ 1 * (o.tile.toNat / 2) ||| row / 8 :=
    Nat.two_pow_add_eq_or_of_lt (by omega) _
  rw [Sprite.tileAt, and_FE_toNat, Nat.mul_comm]
  exact if_congr Iff.rfl rfl hor.symm

/-- A sprite of height `h` that covers the line shows a row below `h` on it. -/
theorem Sprite.row_lt {h : Nat} (htop : o.y.toNat ≤ ly + 16) (hbot : ly + 16 < o.y.toNat + h) : o.row h ly < h := by
  unfold Sprite.row
  simp only
  split <;> omega

theorem spriteHeight_le (lcdc : Byte) : spriteHeight lcdc ≤ 16 := by
  unfold spriteHeight; split <;> omega

/-- The index of a pixel of a sprite that covers the line, by the rule's own arithmetic (R343). -/
theorem spriteIndex_of_covers (htop : o.y.toNat ≤ ly + 16) (hbot : ly + 16 < o.y.toNat + spriteHeight p.lcdc) (c : Nat) :
    p.spriteIndex ram ly o c =
      tilePixel ram
        (0x8000 + 16 * if spriteHeight p.lcdc = 8 then o.tile.toNat
          else o.tile.toNat / 2 * 2 + o.row (spriteHeight p.lcdc) ly / 8)
        (o.row (spriteHeight p.lcdc) ly % 8) (if o.attr.getLsbD 5 then 7 - c else c) := by
  rw [Ppu.spriteIndex, o.tileAt_eq _ ((o.row_lt htop hbot).trans_le (spriteHeight_le _))]

/-- The screen column of pixel `c` of a sprite, before clipping (R343). -/
def Sprite.column (o : Sprite) (c : Nat) : Int := (o.x.toNat : Int) - 8 + c

/-- Pixel `c` of a sprite is off the screen, transparent, or behind the background (R343). -/
def Ppu.Hides (p : Ppu) (d : Screen) (ram : Memory) (ly : Nat) (o : Sprite) (c : Nat) : Prop :=
  o.column c < 0 ∨ (d.w : Int) - 1 < o.column c ∨ p.spriteIndex ram ly o c = 0#2 ∨
    (o.attr.getLsbD 7 = true ∧ p.bgidx.read (o.column c).toNat ≠ 0#2)

variable {d : Screen} {c x : Nat}

theorem Sprite.column_eq_iff : o.column c = (x : Int) ↔ o.x.toNat + c = x + 8 := by
  unfold Sprite.column; omega

/-- A hidden pixel shows in no column of the screen. -/
theorem not_shows_of_hides (h : p.Hides d ram ly o c) (hx : x < d.w) : ¬ p.Shows ram ly o c x := by
  rintro ⟨hcol, hidx, hprio⟩
  rw [← Sprite.column_eq_iff] at hcol
  unfold Ppu.Hides at h
  rw [hcol, Int.toNat_natCast] at h
  rcases h with hleft | hright | hclear | hbehind
  · omega
  · omega
  · exact hidx hclear
  · exact hprio hbehind

/-- A pixel that is not hidden shows at its column, which is on the screen. -/
theorem shows_of_not_hides (h : ¬ p.Hides d ram ly o c) :
    (o.column c).toNat < d.w ∧ p.Shows ram ly o c (o.column c).toNat := by
  simp only [Ppu.Hides, not_or] at h
  obtain ⟨hleft, hright, hidx, hprio⟩ := h
  exact ⟨by omega, Sprite.column_eq_iff.1 (by omega), hidx, hprio⟩

end Rule

section RenderedLine

variable (d : Screen) (p : Ppu) (ram : Memory) (ly : Nat) (o : Sprite) (c : Nat)

theorem backdrop_spriteIndex : (p.backdrop d ram ly).spriteIndex ram ly o c = p.spriteIndex ram ly o c := by
  rw [(painted_backdrop d p ram ly).eq]; rfl

theorem backdrop_spriteColour : (p.backdrop d ram ly).spriteColour ram ly o c = p.spriteColour ram ly o c := by
  rw [(painted_backdrop d p ram ly).eq]; rfl

/-- With sprites on a rendered line shows the line's sprites over its backdrop (R339). -/
theorem renderLine_on {p : Ppu} (h : p.lcdc.getLsbD 1 = true) :
    p.renderLine d ram ly = (p.backdrop d ram ly).drawSprites d ram ly p.sprites := by
  have hlcdc : (p.backdrop d ram ly).lcdc = p.lcdc := by rw [(painted_backdrop d p ram ly).eq]
  have hsprites : (p.backdrop d ram ly).sprites = p.sprites := by rw [(painted_backdrop d p ram ly).eq]
  rw [Ppu.renderLine_eq, spritePass_on (hlcdc ▸ h), hsprites]

end RenderedLine

/-- Settles O44: one pixel by whether it is hidden, and the pass by the first sprite that shows at a column. -/
theorem spritePixelsRespectPriority : Obligations.SpritePixelsRespectPriority := by
  intro d p ram ly h covers column index colour
  have hindex : ∀ o c, covers o → p.spriteIndex ram ly o c = index o c := fun o c ho => spriteIndex_of_covers ho.1 ho.2 c
  have hcolour : ∀ o c, covers o → p.spriteColour ram ly o c = colour o c := fun o c ho =>
    congrArg (shade _) (hindex o c ho)
  refine ⟨fun o c _ ho => ?_, fun hon hcov hly => ?_⟩
  · intro hidden
    have hhides : p.Hides d ram ly o c ↔ hidden := by
      rw [Ppu.Hides, hindex o c ho]
      rfl
    refine ⟨fun hh => spritePixel_of_not_shows (fun x hx => not_shows_of_hides (hhides.2 hh) hx), fun hh => ?_⟩
    obtain ⟨hx, hshows⟩ := shows_of_not_hides (mt hhides.1 hh)
    rw [spritePixel_of_shows hx hshows, hcolour o c ho]
    rfl
  · intro q x hx shows
    have hq : q = (p.backdrop d ram ly).drawSprites d ram ly p.sprites := renderLine_on d ram ly hon
    have hbgidx : q.bgidx = (p.backdrop d ram ly).bgidx := renderLine_bgidx d p ram ly
    have hshows : ∀ o ∈ p.sprites, ∀ c, shows o c ↔ c < 8 ∧ (p.backdrop d ram ly).Shows ram ly o c x := by
      intro o ho c
      rw [Ppu.Shows, backdrop_spriteIndex, hindex o c (hcov o ho), ← hbgidx, ← Sprite.column_eq_iff]
      rfl
    refine ⟨fun above o below c hsplit habove ho => ?_, fun hnone => ?_⟩
    · have hmem : o ∈ p.sprites := hsplit ▸ List.mem_append_right above List.mem_cons_self
      have hunseen : ∀ o' ∈ above, ∀ c' < 8, ¬ (p.backdrop d ram ly).Shows ram ly o' c' x := fun o' ho' c' hc' hs =>
        habove o' ho' c' ((hshows o' (hsplit ▸ List.mem_append_left _ ho') c').2 ⟨hc', hs⟩)
      obtain ⟨hc, hs⟩ := (hshows o hmem c).1 ho
      rw [← hcolour o c (hcov o hmem), ← backdrop_spriteColour d, hq, hsplit]
      exact drawSprites_fb_read_of_shows hly hx hunseen hc hs
    · have hunseen : ∀ o ∈ p.sprites, ∀ c < 8, ¬ (p.backdrop d ram ly).Shows ram ly o c x := fun o ho c hc hs =>
        hnone o ho c ((hshows o ho c).2 ⟨hc, hs⟩)
      rw [hbgidx, ← p.backdrop_fb_read ram hly hx, hq]
      exact drawSprites_fb_read_of_not_shows hly hunseen

end Sys2Proof.Machine

namespace Sys2Proof.Machine

/-! ## Reset (O9, O10) -/

/-- Settles O9: every value of R30, read off the reset record. -/
theorem resetHoldsTheStatedValues : Obligations.ResetHoldsTheStatedValues := by
  unfold Obligations.ResetHoldsTheStatedValues
  decide

/-- Settles O10: each clause of the invariant holds of the reset record, whose stores are empty. -/
theorem resetMeetsTheInvariant : Obligations.ResetMeetsTheInvariant := by
  unfold Obligations.ResetMeetsTheInvariant
  decide

/-! ## What a bus write can do, by the kind of place it reaches (R42, R43) -/

/-- Every next state of a bus write: a byte of RAM, a register of the bank controller, the external RAM, an I/O register,
nothing, or `IE`. -/
theorem memWrite_next_cases {s t : State} {a : Word} {v : Byte} (h : memWrite s a v = .ok t) :
    (∃ k, t = { s with ram := s.ram.write k v }) ∨
    t = { s with cart := s.cart.romWrite a.toNat v } ∨
    (∃ m, t = { s with cart := { s.cart with xram := m } } ∧ (m = s.cart.xram ∨ ∃ k, m = s.cart.xram.write k v)) ∨
    (∃ r, t = s.writeIo r v) ∨
    t = s ∨
    t = { s with irq := { s.irq with ie := v } } := by
  cases hr : regionOf a <;> simp only [memWrite, hr] at h
  case rom => cases h; exact .inr (.inl rfl)
  case xram =>
    rcases Cart.xramWrite_cases s.cart a.toNat v with ⟨-, m, hm, hcase⟩ | ⟨-, hm, -⟩ <;> rw [hm] at h <;> cases h
    exact .inr (.inr (.inl ⟨m, rfl, hcase⟩))
  case io =>
    cases hi : ioRegAt a with
    | none => rw [hi] at h; cases h; exact .inr (.inr (.inr (.inr (.inl rfl))))
    | some r => rw [hi] at h; cases h; exact .inr (.inr (.inr (.inl ⟨r, rfl⟩)))
  case ie => cases h; exact .inr (.inr (.inr (.inr (.inr rfl))))
  all_goals cases h; exact .inl ⟨_, rfl⟩

/-! ## The low nibble of `F` (O17) -/

/-- `F[3:0]` is zero (R13). -/
def State.LowNibbleZero (s : State) : Prop := s.cpu.f &&& 0x0F#8 = 0#8

/-- No elementary move sets a bit of `F[3:0]`: only CPU moves write `F`, and they keep it. -/
theorem kept_lowNibbleZero : Kept State.LowNibbleZero where
  cpu _ _ _ _ hf h := hf h
  write _ _ _ _ hw h := by
    unfold State.LowNibbleZero
    rw [(memWrite_untouched hw).cpu]; exact h
  timer _ _ _ h := h
  dma _ _ _ h := h
  oam _ _ _ h := h
  ppu _ _ _ h := h

/-- Settles O17: the nibble is zero at reset, and every instruction and step is made of moves that keep it. -/
theorem lowFlagNibbleIsAlwaysZero : Obligations.LowFlagNibbleIsAlwaysZero :=
  ⟨by decide, fun _ _ _ h e => kept_lowNibbleZero.exec e h, fun _ _ h e => kept_lowNibbleZero.step e h, fun _ _ => rfl⟩

/-! ## What no step changes (O12) -/

/-- `t` has the image, header and parameters of `s`, and a controller of the same kind (R25, R27). -/
structure SameHardware (s t : State) : Prop where
  rom : t.cart.rom = s.cart.rom
  title : t.cart.title = s.cart.title
  bankCount : t.cart.bankCount = s.cart.bankCount
  ramSize : t.cart.ramSize = s.cart.ramSize
  params : t.params = s.params
  kindNone : s.cart.ctrl = .none → t.cart.ctrl = .none
  kindMbc1 : (∃ r, s.cart.ctrl = .mbc1 r) → ∃ r, t.cart.ctrl = .mbc1 r
  kindMbc3 : (∃ r, s.cart.ctrl = .mbc3 r) → ∃ r, t.cart.ctrl = .mbc3 r

theorem SameHardware.of_eq {s t : State} (hc : t.cart = s.cart) (hp : t.params = s.params) : SameHardware s t := by
  constructor <;> simp [hc, hp]

theorem SameHardware.trans {s t u : State} (h : SameHardware s t) (h' : SameHardware t u) : SameHardware s u where
  rom := h'.rom.trans h.rom
  title := h'.title.trans h.title
  bankCount := h'.bankCount.trans h.bankCount
  ramSize := h'.ramSize.trans h.ramSize
  params := h'.params.trans h.params
  kindNone hc := h'.kindNone (h.kindNone hc)
  kindMbc1 hc := h'.kindMbc1 (h.kindMbc1 hc)
  kindMbc3 hc := h'.kindMbc3 (h.kindMbc3 hc)

theorem SameHardware.of_memWrite {s t : State} {a : Word} {v : Byte} (h : memWrite s a v = .ok t) : SameHardware s t := by
  have hu := memWrite_untouched h
  obtain ⟨hnone, hmbc1, hmbc3⟩ := memWrite_kind h
  exact ⟨hu.rom, hu.title, hu.bankCount, hu.ramSize, hu.params, hnone, hmbc1, hmbc3⟩

/-- Only a bus write reaches the cartridge, and it keeps the hardware. -/
theorem kept_sameHardware (s₀ : State) : Kept (SameHardware s₀) where
  cpu _ _ _ _ _ h := h.trans (.of_eq rfl rfl)
  write _ _ _ _ hw h := h.trans (.of_memWrite hw)
  timer _ _ _ h := h.trans (.of_eq rfl rfl)
  dma _ _ _ h := h.trans (.of_eq rfl rfl)
  oam _ _ _ h := h.trans (.of_eq rfl rfl)
  ppu _ _ _ h := h.trans (.of_eq rfl rfl)

theorem SameHardware.of_exec {i : Instr} {s t : State} (e : exec i s = .next t) : SameHardware s t :=
  (kept_sameHardware s).exec e (.of_eq rfl rfl)

theorem SameHardware.of_step {s t : State} (e : step s = .next t) : SameHardware s t :=
  (kept_sameHardware s).step e (.of_eq rfl rfl)

/-- Settles O12: the clauses of `SameHardware`, for a step. -/
theorem noStepChangesImageHeaderOrParameters : Obligations.NoStepChangesImageHeaderOrParameters := by
  intro s t e
  obtain ⟨hrom, htitle, hbanks, hram, hparams, hnone, hmbc1, hmbc3⟩ := SameHardware.of_step e
  exact ⟨hrom, htitle, hbanks, hram, hparams, hnone, hmbc1, hmbc3⟩

end Sys2Proof.Machine

namespace Sys2Proof.Machine

/-! ## The invariant, clause by clause (O11) -/

/-- The PPU's part of the invariant: canonical stores, a line number, at most ten sprites in X order (R22, R23, R338). -/
structure Ppu.Ok (p : Ppu) : Prop where
  bgidx : p.bgidx.wf = true
  fb : p.fb.wf = true
  ly : p.ly.toNat ≤ 153
  few : p.sprites.length ≤ 10
  sorted : p.sprites.Pairwise (fun o q => o.x.toNat ≤ q.x.toNat)

/-- The cartridge's part of the invariant: canonical stores, legal banks (R70, R73). -/
structure Cart.Ok (c : Cart) : Prop where
  rom : Memory.wf c.rom = true
  xram : Memory.wf c.xram = true
  banks : c.bankCountLegal = true
  bank : c.bankInImage = true

/-- The invariant, by the part of the machine each clause speaks of. -/
structure Invariant (s : State) : Prop where
  ram : Memory.wf s.ram = true
  low : s.LowNibbleZero
  ppu : s.ppu.Ok
  dma : s.dma.source.toNat % 256 = 0
  cart : s.cart.Ok

theorem State.inv_iff (s : State) : s.inv = true ↔ Invariant s := by
  simp only [State.inv, State.memoriesWf, Bool.and_eq_true, beq_iff_eq, decide_eq_true_eq, and_assoc]
  constructor
  · rintro ⟨hram, hrom, hxram, hbgidx, hfb, hlow, hly, hfew, hsorted, hdma, hbanks, hbank⟩
    exact ⟨hram, hlow, ⟨hbgidx, hfb, hly, hfew, hsorted⟩, hdma, ⟨hrom, hxram, hbanks, hbank⟩⟩
  · rintro ⟨hram, hlow, ⟨hbgidx, hfb, hly, hfew, hsorted⟩, hdma, ⟨hrom, hxram, hbanks, hbank⟩⟩
    exact ⟨hram, hrom, hxram, hbgidx, hfb, hlow, hly, hfew, hsorted, hdma, hbanks, hbank⟩

section Ppu

variable {p : Ppu}

/-- `StatEval` writes `STAT` and the stored line only (R332). -/
theorem Ppu.Ok.statEval (h : p.Ok) : p.statEval.1.Ok := ⟨h.bgidx, h.fb, h.ly, h.few, h.sorted⟩

/-- A write of `LCDC` leaves `LY` or clears it (R350). -/
theorem Ppu.Ok.writeLcdc (h : p.Ok) (v : Byte) : (p.writeLcdc v).Ok := by
  unfold Ppu.writeLcdc
  split
  · exact ⟨h.bgidx, h.fb, h.ly, h.few, h.sorted⟩
  · exact ⟨h.bgidx, h.fb, Nat.zero_le _, h.few, h.sorted⟩

/-- A tick keeps the PPU's clauses: new sprites are a selection, which is short and sorted (R338). -/
theorem Ppu.Ok.advance (h : p.Ok) (d : Screen) (ram : Memory) (n : Nat) : (p.advance d ram n).1.Ok := by
  have ha := advanced_advance d p ram n
  have hsprites : (p.advance d ram n).1.sprites.length ≤ 10 ∧
      (p.advance d ram n).1.sprites.Pairwise (fun o q => o.x.toNat ≤ q.x.toNat) := by
    rcases ha.sprites with hs | ⟨m, lcdc, ly, hs⟩ <;> rw [hs]
    · exact ⟨h.few, h.sorted⟩
    · exact ⟨selectedSprites_length m lcdc ly, sortByX_sorted _⟩
  exact ⟨ha.wfIdx h.bgidx, ha.wfFb h.fb, ha.ly h.ly, hsprites.1, hsprites.2⟩

end Ppu

section Cart

variable {c : Cart}

/-- The mask of a legal bank count is below it (R74). -/
theorem bankMask_lt {n : Nat} (h : n ∈ [2, 4, 8, 16, 32, 64, 128]) : (bankMask n).toNat < n := by
  revert h n
  decide

/-- The bank a masked register value selects is in the image and not bank 0 (R25, R73, R74). -/
theorem bankOf_masked {n : Nat} (h : n ∈ [2, 4, 8, 16, 32, 64, 128]) (v : Byte) :
    1 ≤ (BitVec.ofNat 5 (bankOf ((v &&& 0x1F#8) &&& bankMask n).toNat)).toNat ∧
      (BitVec.ofNat 5 (bankOf ((v &&& 0x1F#8) &&& bankMask n).toNat)).toNat < n := by
  have hmask := bankMask_lt h
  have hn : 2 ≤ n := by revert h n; decide
  have hle : ((v &&& 0x1F#8) &&& bankMask n).toNat ≤ (bankMask n).toNat := by
    rw [BitVec.toNat_and]; exact Nat.and_le_right
  have h5 : ((v &&& 0x1F#8) &&& bankMask n).toNat ≤ 31 := by
    rw [BitVec.toNat_and, BitVec.toNat_and]; exact Nat.and_le_left.trans Nat.and_le_right
  rw [BitVec.toNat_ofNat]
  generalize ((v &&& 0x1F#8) &&& bankMask n).toNat = b at hle h5
  unfold bankOf
  split <;> omega

/-- A register write leaves an MBC1-style bank in the image (R73, R74). -/
theorem bankInImage_mbc1_write {r : Mbc1} (hc : c.ctrl = .mbc1 r) (hbanks : c.bankCountLegal = true)
    (hbank : c.bankInImage = true) (a : Nat) (v : Byte) :
    Cart.bankInImage { c with ctrl := .mbc1 (r.write c.bankCount a v) } = true := by
  simp only [Cart.bankInImage, hc] at hbank
  unfold Mbc1.write
  split_ifs
  · exact hbank
  · have hb := bankOf_masked (List.contains_iff_mem.1 hbanks) v
    exact Bool.and_eq_true_iff.2 ⟨decide_eq_true hb.1, decide_eq_true hb.2⟩
  · exact hbank
  · exact hbank

/-- A write of the ROM window changes controller registers only (R72, R74, R76). -/
theorem Cart.Ok.romWrite (h : c.Ok) (a : Nat) (v : Byte) : (c.romWrite a v).Ok := by
  unfold Cart.romWrite
  cases hc : c.ctrl with
  | none => exact h
  | mbc1 r => exact ⟨h.rom, h.xram, h.banks, bankInImage_mbc1_write hc h.banks h.bank a v⟩
  | mbc3 r => exact ⟨h.rom, h.xram, h.banks, rfl⟩

end Cart

section Moves

variable {s : State}

theorem Invariant.writePpu (h : Invariant s) {p : Ppu} (hp : p.Ok) : Invariant (s.writePpu p) where
  ram := by simpa using h.ram
  low := by simpa [State.LowNibbleZero] using h.low
  ppu := by rw [State.writePpu_ppu]; exact hp.statEval
  dma := by simpa using h.dma
  cart := by simpa using h.cart

/-- `dma.source` is `v` in the high byte and zero in the low one (R286). -/
theorem dmaTrigger_source (v : Byte) : (dmaTrigger v).source.toNat % 256 = 0 := by
  simp [dmaTrigger, word_toNat]

/-- A register write: the PPU's by the clauses of the PPU, the DMA trigger by its source, the others touch no clause. -/
theorem Invariant.writeIo (h : Invariant s) (r : IoReg) (v : Byte) : Invariant (s.writeIo r v) := by
  have hp := h.ppu
  cases r
  case p1 | div | tima | tma | tac | ifr => exact ⟨h.ram, h.low, h.ppu, h.dma, h.cart⟩
  case dma => exact ⟨h.ram, h.low, h.ppu, dmaTrigger_source v, h.cart⟩
  case lcdc => exact h.writePpu (hp.writeLcdc v)
  all_goals exact h.writePpu ⟨hp.bgidx, hp.fb, hp.ly, hp.few, hp.sorted⟩

theorem Invariant.memWrite (h : Invariant s) {t : State} {a : Word} {v : Byte} (e : memWrite s a v = .ok t) :
    Invariant t := by
  rcases memWrite_next_cases e with ⟨k, rfl⟩ | rfl | ⟨m, rfl, hm⟩ | ⟨r, rfl⟩ | rfl | rfl
  · exact ⟨Memory.wf_write h.ram k v, h.low, h.ppu, h.dma, h.cart⟩
  · exact ⟨h.ram, h.low, h.ppu, h.dma, h.cart.romWrite a.toNat v⟩
  · have hwf : Memory.wf m = true := by
      rcases hm with rfl | ⟨k, rfl⟩
      · exact h.cart.xram
      · exact Memory.wf_write h.cart.xram k v
    exact ⟨h.ram, h.low, h.ppu, h.dma, ⟨h.cart.rom, hwf, h.cart.banks, h.cart.bank⟩⟩
  · exact h.writeIo r v
  · exact h
  · exact ⟨h.ram, h.low, h.ppu, h.dma, h.cart⟩

end Moves

/-- Every elementary move keeps the invariant. -/
theorem kept_invariant : Kept Invariant where
  cpu _ _ _ _ hf h := ⟨h.ram, hf h.low, h.ppu, h.dma, h.cart⟩
  write _ _ _ _ e h := h.memWrite e
  timer _ _ _ h := ⟨h.ram, h.low, h.ppu, h.dma, h.cart⟩
  dma _ _ _ h := ⟨h.ram, h.low, h.ppu, h.dma, h.cart⟩
  oam _ _ _ h := ⟨Memory.wf_write h.ram _ _, h.low, h.ppu, h.dma, h.cart⟩
  ppu s n _ h := ⟨h.ram, h.low, (h.ppu.advance s.params.screen s.ram n).statEval, h.dma, h.cart⟩

/-- Settles O11: a step is made of elementary moves, and each keeps the invariant. -/
theorem everyStepKeepsTheInvariant : Obligations.EveryStepKeepsTheInvariant := by
  intro s t hs e
  rw [State.inv_iff] at hs ⊢
  exact kept_invariant.step e hs

end Sys2Proof.Machine

namespace Sys2Proof.Machine

/-! ## The OAM DMA copy (O31) -/

/-- A bus read does not see the mode or the count of the DMA sequencer: its register reads the source (R286). -/
theorem memRead_withDma (s : State) (m : DmaMode) (n : Nat) (a : Word) :
    memRead { s with dma := { s.dma with mode := m, elapsed := n } } a = memRead s a := by
  simp only [memRead]
  cases regionOf a <;> rfl

section DmaCopy

variable {s t : State} {l : List Nat}

/-- The copy writes RAM and nothing else (R288). -/
theorem dmaCopy_frame (e : dmaCopy l s = .ok t) : t = { s with ram := t.ram } := by
  induction l generalizing s with
  | nil => cases e; rfl
  | cons i l ih =>
    unfold dmaCopy at e
    split at e
    · exact (ih e).trans rfl
    · cases e

/-- From a page-aligned base the `j`-th source byte is at the base plus `j`: the page is not left (R20, R288). -/
theorem dmaAddr_toNat (h : s.dma.source.toNat % 256 = 0) {j : Nat} (hj : j < 160) :
    (dmaAddr s j).toNat = s.dma.source.toNat + j := by
  have hlt := s.dma.source.isLt
  simp only [dmaAddr, BitVec.toNat_add, BitVec.toNat_ofNat]
  omega

/-- An OAM byte already copied is no later source byte: it could only be its own source (R288). -/
theorem memRead_setOam_of_ne (h : s.dma.source.toNat % 256 = 0) {i j : Nat} (hi : i < 160) (hj : j < 160) (hij : i ≠ j)
    (v : Byte) : memRead (s.setOam i v) (dmaAddr s j) = memRead s (dmaAddr s j) := by
  have haddr := dmaAddr_toNat h hj
  by_cases hp : plainStorage (dmaAddr s j) = true
  · have hhome : 0xFE00 + i ≠ ramHome s.params (dmaAddr s j) := by
      by_cases hecho : regionOf (dmaAddr s j) = .echo
      · have hlt := echoOffset_lt s.params (dmaAddr s j).toNat
        rw [ramHome_echo s.params hecho]
        omega
      · rw [ramHome_self s.params hecho, haddr]
        omega
    rw [memRead_plain _ hp, memRead_plain _ hp]
    exact congrArg Except.ok (Memory.read_write_ne s.ram v hhome)
  · exact memRead_withRam s _ (Bool.eq_false_iff.2 hp)

/-- What the copy of the distinct indices `l` leaves: each of them the byte its source address read before the copy, every
other byte of RAM as it was (R288). -/
theorem dmaCopy_spec (hsrc : s.dma.source.toNat % 256 = 0) (hnodup : l.Nodup) (hl : ∀ i ∈ l, i < 160)
    (hread : ∀ i ∈ l, s.readable (dmaAddr s i) = true) :
    ∃ t, dmaCopy l s = .ok t ∧ (∀ i ∈ l, memRead s (dmaAddr s i) = .ok (Memory.read t.ram (0xFE00 + i))) ∧
      ∀ k, (∀ i ∈ l, 0xFE00 + i ≠ k) → Memory.read t.ram k = Memory.read s.ram k := by
  induction l generalizing s with
  | nil => exact ⟨s, rfl, by simp, fun _ _ => rfl⟩
  | cons i l ih =>
    obtain ⟨hil, hnodup⟩ := List.nodup_cons.1 hnodup
    simp only [List.forall_mem_cons] at hl hread
    obtain ⟨v, hv⟩ := memRead_of_readable hread.1
    obtain ⟨t, ht, hcopied, hkept⟩ := ih (s := s.setOam i v) hsrc hnodup hl.2 hread.2
    refine ⟨t, by rw [dmaCopy, hv]; exact ht, List.forall_mem_cons.2 ⟨?_, fun j hj => ?_⟩, fun k hk => ?_⟩
    · have hkeep := hkept (0xFE00 + i) (fun j hj he => hil (by rwa [← Nat.add_left_cancel he]))
      rw [hv, hkeep, State.setOam_ram]
      exact congrArg Except.ok (Memory.read_write_self s.ram (0xFE00 + i) v).symm
    · have hij : i ≠ j := fun he => hil (he ▸ hj)
      rw [← memRead_setOam_of_ne hsrc hl.1 (hl.2 j hj) hij v]
      exact hcopied j hj
    · obtain ⟨hki, hkl⟩ := List.forall_mem_cons.1 hk
      exact (hkept k hkl).trans (Memory.read_write_ne s.ram v hki)

end DmaCopy

/-- Settles O31: the three cases of a tick; the copy of the page by `dmaCopy_spec`. -/
theorem dmaCopiesThePageAfter160Cycles : Obligations.DmaCopiesThePageAfter160Cycles := by
  intro s c hc
  rcases dmaTick_cases s c with ⟨hoff, h⟩ | ⟨m, h, hon, -, htrans, hlt⟩ | ⟨hon, hge, h⟩
  · exact ⟨fun _ => h, fun hon => absurd hoff hon, fun hon => absurd hoff hon⟩
  · obtain rfl := htrans (by omega)
    exact ⟨fun hoff => absurd hoff hon, fun _ _ => h, fun _ hge => absurd hlt (by omega)⟩
  · refine ⟨fun hoff => absurd hoff hon, fun _ hlt => absurd hlt (by omega), fun _ _ hsrc hread => ?_⟩
    obtain ⟨t, ht, hcopied, hkept⟩ := dmaCopy_spec
      (s := { s with dma := { s.dma with mode := .transferring, elapsed := s.dma.elapsed + c } })
      hsrc List.nodup_range (fun i hi => List.mem_range.1 hi) (fun i hi => hread i (List.mem_range.1 hi))
    refine ⟨{ t with dma := { t.dma with mode := .off } }, by rw [h]; simp only [Config.dmaBytes, ht], ?_,
      fun i hi => ?_, fun k hk => ?_⟩
    · rw [dmaCopy_frame ht]
    · exact (memRead_withDma s .transferring (s.dma.elapsed + c) _).symm.trans (hcopied i (List.mem_range.2 hi))
    · exact hkept k (fun i hi => by have := List.mem_range.1 hi; omega)

end Sys2Proof.Machine

namespace Sys2Proof.Machine

/-! ## The parts of a step (R261) -/

/-- The cycles of a step whose instruction part left `u`: the reported cost and the penalty (R261). -/
def stepCycles (s u : State) : Nat := u.cost + penalty s

/-- The step of `s`: one instruction leaves `u`, the timer and the DMA sequencer leave `w`, the PPU and the interrupt half
leave `t`. -/
structure StepParts (s u w t : State) : Prop where
  instr : ∃ i pc, exec i ((beginStep s).setPc pc) = .next u
  dma : dmaTick (State.timerTick { u with cycles := stepCycles s u } (u.params.tickScale * stepCycles s u))
    (stepCycles s u) = .ok w
  rest : interruptHalf (w.ppuTick (w.params.tickScale * stepCycles s u)) = .next t

/-- A halted machine executes the synthetic `HALT`, a running one what it fetched (R246). -/
theorem runInstr_next {s u : State} (e : runInstr s = .next u) : ∃ i pc, exec i (s.setPc pc) = .next u := by
  unfold runInstr at e
  split at e
  · exact ⟨.halt, s.cpu.pc, e⟩
  · obtain ⟨⟨i, r⟩, hr, e⟩ := onOk_next_iff.1 e
    obtain ⟨pc, rfl⟩ := fetchInstr_state hr
    exact ⟨i, pc, e⟩

theorem step_parts {s t : State} (e : step s = .next t) : ∃ u w, StepParts s u w t := by
  obtain ⟨u, hu, e⟩ := thenDo_next_iff.1 e
  obtain ⟨x, hx, e⟩ := onOk_next_iff.1 e
  unfold advanceDevices at hx
  split at hx
  · rename_i w hw
    cases hx
    exact ⟨u, w, runInstr_next hu, hw, e⟩
  · cases hx

/-- The interrupt half dispatches nothing, or pushes and sets `serviced` (R272, R273). -/
theorem interruptHalf_next {s t : State} (e : interruptHalf s = .next t) :
    t = s.wake ∨ ∃ v u q p, push16 (s.wake.setIme false) v = .ok u ∧ t = { u with irq := q, cpu := p } ∧ p.serviced = true := by
  unfold interruptHalf at e
  split at e
  · split at e
    · obtain ⟨u, hu, e⟩ := onOk_next_iff.1 e
      cases e
      exact .inr ⟨_, u, _, _, hu, rfl, rfl⟩
    · cases e; exact .inl rfl
  · cases e; exact .inl rfl

/-- A property that looks at no CPU register, cost or interrupt mask, and that bus writes keep. Unlike `Kept` it asks nothing of
the devices' own ticks, which may break the property inside a step and restore it. -/
structure KeptByStores (P : State → Prop) : Prop where
  cpu : ∀ (s : State) (p : Cpu) (n : Nat) (q : Irq), P s → P { s with cpu := p, cost := n, irq := q }
  write : ∀ s t a v, memWrite s a v = .ok t → P s → P t

section KeptByStores

variable {P : State → Prop} (K : KeptByStores P) {s t : State}
include K

theorem KeptByStores.withCpu (p : Cpu) (h : P s) : P { s with cpu := p } := K.cpu s p s.cost s.irq h

theorem KeptByStores.effect {l : List Word} (e : Effect s l t) (h : P s) : P t := by
  induction e with
  | cpu s p n _ => exact K.cpu s p n s.irq h
  | store hw _ ih => exact ih (K.write _ _ _ _ hw h)
  | move p _ _ ih => exact ih (K.withCpu p h)

/-- Every instruction keeps the property. -/
theorem KeptByStores.exec {i : Instr} (e : exec i s = .next t) (h : P s) : P t := K.effect (exec_effect e) h

theorem KeptByStores.push16 {v : Word} (e : push16 s v = .ok t) (h : P s) : P t := by
  unfold Machine.push16 at e
  split at e
  · rename_i u hu
    exact K.write _ _ _ _ e (K.withCpu _ (K.write _ _ _ _ hu (K.withCpu _ h)))
  · cases e

theorem KeptByStores.wake (h : P s) : P s.wake := by
  unfold State.wake
  split
  · exact K.withCpu _ h
  · exact h

/-- The interrupt half keeps the property: a dispatch only pushes. -/
theorem KeptByStores.interruptHalf (e : interruptHalf s = .next t) (h : P s) : P t := by
  rcases interruptHalf_next e with rfl | ⟨v, u, q, p, hu, rfl, -⟩
  · exact K.wake h
  · exact K.cpu u p u.cost q (K.push16 hu (K.withCpu _ (K.wake h)))

end KeptByStores

/-! ## The counters of the devices (O15) -/

theorem writePpu_ticks (s : State) (p : Ppu) : (s.writePpu p).ppu.ticks = p.ticks := by
  rw [State.writePpu_ppu]; rfl

/-- A write of `LCDC` leaves the line counter, or clears it by disabling the PPU (R350). -/
theorem writeLcdc_ticks (p : Ppu) (v : Byte) : (p.writeLcdc v).ticks = p.ticks ∨ (p.writeLcdc v).ticks = 0 := by
  unfold Ppu.writeLcdc
  split
  · exact .inl rfl
  · exact .inr rfl

/-- A bus write leaves the line counter, or clears it by disabling the PPU (R350). -/
theorem memWrite_ticks {s t : State} {a : Word} {v : Byte} (e : memWrite s a v = .ok t) :
    t.ppu.ticks = s.ppu.ticks ∨ t.ppu.ticks = 0 := by
  rcases memWrite_next_cases e with ⟨k, rfl⟩ | rfl | ⟨m, rfl, -⟩ | ⟨r, rfl⟩ | rfl | rfl
  case inr.inr.inr.inl =>
    cases r
    case lcdc =>
      rw [State.writeIo, writePpu_ticks]
      exact writeLcdc_ticks s.ppu v
    case p1 | div | tima | tma | tac | ifr | dma => exact .inl rfl
    all_goals exact .inl (writePpu_ticks s _)
  all_goals exact .inl rfl

/-- A bus write leaves the DMA sequencer, or triggers it (R286). -/
theorem memWrite_dma {s t : State} {a : Word} {v : Byte} (e : memWrite s a v = .ok t) :
    t.dma = s.dma ∨ t.dma = dmaTrigger v := by
  rcases memWrite_next_cases e with ⟨k, rfl⟩ | rfl | ⟨m, rfl, -⟩ | ⟨r, rfl⟩ | rfl | rfl
  case inr.inr.inr.inl =>
    cases r
    case dma => exact .inr rfl
    case p1 | div | tima | tma | tac | ifr => exact .inl rfl
    all_goals exact .inl (State.writePpu_dma s _)
  all_goals exact .inl rfl

/-- The line counter is inside its line (R325). -/
def State.LineCounterInRange (s : State) : Prop := s.ppu.ticks ≤ 456

/-- A transfer under way has not reached its copy (R287). -/
def State.TransferInRange (s : State) : Prop := s.dma.mode = .transferring → s.dma.elapsed < 160

theorem keptByStores_lineCounter : KeptByStores State.LineCounterInRange where
  cpu _ _ _ _ h := h
  write s t _ _ e h := by
    unfold State.LineCounterInRange at *
    rcases memWrite_ticks e with ht | ht <;> omega

theorem keptByStores_transfer : KeptByStores State.TransferInRange where
  cpu _ _ _ _ h := h
  write s t _ v e h := by
    unfold State.TransferInRange at *
    rcases memWrite_dma e with ht | ht <;> rw [ht]
    · exact h
    · exact fun hm => by cases hm

/-- The rollover leaves the reduced counter (R327). -/
theorem rollover_ticks (p : Ppu) (d : Screen) (ram : Memory) : (p.rollover d ram).1.ticks = p.ticks := by
  unfold Ppu.rollover
  simp only
  generalize (if p.ly = 153#8 then 0#8 else p.ly + 1#8) = ly
  split
  · rfl
  · split
    · show (Ppu.renderLine ..).ticks = p.ticks
      rw [(painted_renderLine _ _ _ _).eq]
      rfl
    · rfl

/-- A tick of at most one line keeps the line counter in its line (R325). -/
theorem advance_ticks_le {p : Ppu} (d : Screen) (ram : Memory) {n : Nat} (hp : p.ticks ≤ 456) (hn : n ≤ 456) :
    (p.advance d ram n).1.ticks ≤ 456 := by
  have hline : Config.lineTicks = 456 := rfl
  unfold Ppu.advance
  simp only
  split
  · split
    · rw [rollover_ticks]
      show p.ticks + n - Config.lineTicks ≤ 456
      omega
    · split
      · show p.ticks + n ≤ 456
        omega
      · show p.ticks + n ≤ 456
        omega
  · exact hp

/-- A tick of the DMA sequencer leaves the other devices, and a transfer in range; a tick of a cycle ends the wait (R287). -/
theorem dmaTick_next {s t : State} {c : Nat} (e : dmaTick s c = .ok t) :
    t.ppu = s.ppu ∧ t.TransferInRange ∧ (1 ≤ c → t.dma.mode ≠ .waiting) := by
  unfold State.TransferInRange
  rcases dmaTick_cases s c with ⟨hoff, h⟩ | ⟨m, h, -, -, htrans, hlt⟩ | ⟨-, -, h⟩ <;> rw [h] at e
  · cases e
    simp [hoff]
  · cases e
    exact ⟨rfl, fun _ => hlt, fun hc => by rw [htrans (by omega)]; simp⟩
  · split at e
    · rename_i u hu
      cases e
      rw [dmaCopy_frame hu]
      simp
    · cases e

namespace StepParts

variable {s u w t : State} (h : StepParts s u w t)
include h

/-- The instruction keeps what it can reach only by bus writes. -/
theorem afterInstr {P : State → Prop} (K : KeptByStores P) (hs : P s) : P u := by
  obtain ⟨i, pc, hi⟩ := h.instr
  exact K.exec hi (K.withCpu _ (K.withCpu _ hs))

theorem params_instr : u.params = s.params := by
  obtain ⟨i, pc, hi⟩ := h.instr
  exact (SameHardware.of_exec hi).params

theorem params_dma : w.params = s.params :=
  ((kept_sameHardware _).dmaTick h.dma ((kept_sameHardware _).timerTick _ (.of_eq rfl rfl))).params.trans h.params_instr

theorem ppu_dma : w.ppu = u.ppu := (dmaTick_next h.dma).1.trans (State.timerTick_ppu _ _)

/-- By the default cost tables a step takes 1 to 11 cycles (R262). -/
theorem cycles_bounds (hc : s.params.cost = []) : 1 ≤ stepCycles s u ∧ stepCycles s u ≤ 11 := by
  obtain ⟨i, pc, hi⟩ := h.instr
  have hcost := exec_cost hi hc
  unfold stepCycles penalty Config.dispatchPenalty
  split <;> omega

/-- With default costs and a tick scale of at most 4 the line counter stays in its line (R325, R396). -/
theorem lineCounter (hc : s.params.cost = []) (hscale : s.params.tickScale ≤ 4) (hs : s.LineCounterInRange) :
    t.LineCounterInRange := by
  refine keptByStores_lineCounter.interruptHalf h.rest ?_
  have hw : w.ppu.ticks ≤ 456 := h.ppu_dma ▸ h.afterInstr keptByStores_lineCounter hs
  have hn : w.params.tickScale * stepCycles s u ≤ 4 * 11 :=
    Nat.mul_le_mul (h.params_dma ▸ hscale) (h.cycles_bounds hc).2
  show (State.ppuTick ..).ppu.ticks ≤ 456
  rw [State.ppuTick_ppu]
  exact advance_ticks_le _ _ hw (hn.trans (by decide))

theorem transfer : t.TransferInRange := by
  refine keptByStores_transfer.interruptHalf h.rest ?_
  unfold State.TransferInRange
  rw [State.ppuTick_dma]
  exact (dmaTick_next h.dma).2.1

/-- With default costs the sequencer waits at the end of a step only after a dispatch, which can write its register (R273). -/
theorem not_waiting (hc : s.params.cost = []) (hserviced : t.cpu.serviced = false) : t.dma.mode ≠ .waiting := by
  rcases interruptHalf_next h.rest with rfl | ⟨v, x, q, p, -, rfl, hp⟩
  · have hdma : ∀ x : State, x.wake.dma = x.dma := fun x => by unfold State.wake; split <;> rfl
    rw [hdma, State.ppuTick_dma]
    exact (dmaTick_next h.dma).2.2 (h.cycles_bounds hc).1
  · exact absurd (hp.symm.trans hserviced) (by decide)

end StepParts

/-- Settles O15: the three counters, each through the parts of the step. -/
theorem deviceCountersStayInRange : Obligations.DeviceCountersStayInRange := by
  intro s t e
  obtain ⟨u, w, h⟩ := step_parts e
  exact ⟨h.lineCounter, h.transfer, h.not_waiting⟩

end Sys2Proof.Machine

namespace Sys2Proof.Machine

/-! ## Sprite selection (O40) -/

/-- The Y range of a sprite, by the rule's signed arithmetic (R338). -/
theorem Sprite.covers_eq (o : Sprite) (h ly : Nat) :
    o.covers h ly = decide ((o.y.toNat : Int) - 16 ≤ ly ∧ (ly : Int) < (o.y.toNat : Int) - 16 + h) := by
  rw [Sprite.covers, ← Bool.decide_and]
  exact decide_eq_decide.2 ⟨fun ⟨_, _⟩ => by omega, fun ⟨_, _⟩ => by omega⟩

/-- The four bytes of a table entry, one after the other (R338). -/
theorem oamEntry_eq (ram : Memory) (i : Nat) : oamEntry ram i =
    { y := Memory.read ram (0xFE00 + 4 * i), x := Memory.read ram (0xFE00 + 4 * i + 1)
      tile := Memory.read ram (0xFE00 + 4 * i + 2), attr := Memory.read ram (0xFE00 + 4 * i + 3) } := by
  have hx : 0xFE01 + 4 * i = 0xFE00 + 4 * i + 1 := by omega
  have htile : 0xFE02 + 4 * i = 0xFE00 + 4 * i + 2 := by omega
  have hattr : 0xFE03 + 4 * i = 0xFE00 + 4 * i + 3 := by omega
  rw [oamEntry, hx, htile, hattr]

/-- Settles O40: the entries found are those of the rule, and the sort is a stable one. -/
theorem spriteSelectionIsTheFirstTenInXOrder : Obligations.SpriteSelectionIsTheFirstTenInXOrder := by
  intro ram lcdc ly h entry found sel
  have hentry : oamEntry ram = entry := funext (oamEntry_eq ram)
  have hheight : (spriteHeight lcdc : Int) = h := by
    show ((if lcdc.getLsbD 2 = true then 16 else 8 : Nat) : Int) = if lcdc.getLsbD 2 = true then 16 else 8
    split <;> rfl
  have hcovers : (fun o : Sprite => o.covers (spriteHeight lcdc) ly) =
      fun o => decide ((o.y.toNat : Int) - 16 ≤ ly ∧ (ly : Int) < (o.y.toNat : Int) - 16 + h) :=
    funext fun o => hheight ▸ o.covers_eq _ ly
  have hsel : sel = sortByX found := by
    show selectedSprites ram lcdc ly = sortByX found
    rw [selectedSprites, hentry, hcovers]
  refine ⟨hsel ▸ sortByX_perm found, selectedSprites_length ram lcdc ly, hsel ▸ sortByX_sorted found, fun x => ?_⟩
  rw [hsel]
  exact sortByX_stable found x

/-! ## The stack (O48, O49) -/

/-- The bytes of the stack instructions (R143, R144). -/
theorem encode_stack (p : StackPair) :
    encode (Form.push p) = [0b11#2 ++ p.code ++ 0b0101#4] ∧ encode (Form.pop p) = [0b11#2 ++ p.code ++ 0b0001#4] := by
  cases p <;> exact ⟨rfl, rfl⟩

/-- A push whose two writes are answered (R143). -/
theorem exec_push_of_canPush (p : StackPair) {s : State} (h : s.canPush = true) :
    ∃ t, Pushed s (s.cpu.stackPair p) t ∧ t.cpu = s.cpu ∧
      exec (Form.push p) s =
        .next (State.charge { t with cpu := { s.cpu with sp := s.cpu.sp - 2#16 } } (opcodeKey (Form.push p)) 4) := by
  obtain ⟨t, hpushed, hcpu, hpush⟩ := push16_of_canPush h (s.cpu.stackPair p)
  refine ⟨t, hpushed, hcpu, ?_⟩
  rw [exec_push, pushPair, hpush, ← hcpu]
  rfl

/-- A pop whose two reads are answered (R144). -/
theorem exec_pop_of_canPop (p : StackPair) {s : State} (h : s.canPop = true) :
    ∃ v, Popped s v ∧
      exec (Form.pop p) s =
        .next (State.charge { s with cpu := Cpu.setStackPair { s.cpu with sp := s.cpu.sp + 2#16 } p v }
          (opcodeKey (Form.pop p)) 3) := by
  obtain ⟨v, hpopped, hpop⟩ := pop16_of_canPop h
  refine ⟨v, hpopped, ?_⟩
  rw [exec_pop, popPair, hpop]
  rfl

/-- Settles O48: the encodings, and one lemma for each of push and pop. -/
theorem pushAndPop : Obligations.PushAndPop := fun p =>
  ⟨(encode_stack p).1, (encode_stack p).2, fun _ h => exec_push_of_canPush p h, fun _ h => exec_pop_of_canPop p h⟩

/-- Writing back the pair just read changes nothing: `F[3:0]` is zero, so `POP AF` drops no bit (R13). -/
theorem Cpu.setStackPair_stackPair {q : Cpu} (h : q.f &&& 0x0F#8 = 0#8) (p : StackPair) :
    q.setStackPair p (q.stackPair p) = q := by
  cases p
  case af => rw [Cpu.stackPair_af h, Cpu.setStackPair_af_word, and_highNibble_of_lowNibble_zero h]
  all_goals simp [Cpu.setStackPair, Cpu.stackPair]

section PlainStack

variable {s : State} (h : s.plainStack = true)
include h

theorem plainStack_spec : plainStorage (s.cpu.sp - 1#16) = true ∧ plainStorage (s.cpu.sp - 2#16) = true ∧
    ramHome s.params (s.cpu.sp - 1#16) ≠ ramHome s.params (s.cpu.sp - 2#16) := by
  simpa [State.plainStack, and_assoc] using h

theorem canPush_of_plainStack : s.canPush = true := by
  obtain ⟨hhi, hlo, -⟩ := plainStack_spec h
  rw [State.canPush, writable_of_plain hhi, writable_of_plain hlo]
  rfl

/-- A word pushed to a plain stack is the word on top of it (R14, R143, R144). -/
theorem popped_of_pushed {v : Word} {t : State} (hp : Pushed s v t) (q : Cpu) (n : Nat)
    (hq : q.sp = s.cpu.sp - 2#16) : Popped { t with cpu := q, cost := n } v := by
  obtain ⟨hhi, hlo, hne⟩ := plainStack_spec h
  obtain ⟨u, hu, ht⟩ := hp
  rw [memWrite_plain s hhi] at hu
  cases hu
  rw [memWrite_plain _ hlo] at ht
  cases ht
  have hsp : s.cpu.sp - 2#16 + 1#16 = s.cpu.sp - 1#16 := by bv_omega
  refine ⟨loByte v, hiByte v, ?_, ?_, (word_hi_lo v).symm⟩
  · show memRead _ q.sp = _
    rw [hq, memRead_plain _ hlo]
    exact congrArg Except.ok (Memory.read_write_self _ _ _)
  · show memRead _ (q.sp + 1#16) = _
    rw [hq, hsp, memRead_plain _ hhi]
    refine congrArg Except.ok ((Memory.read_write_ne _ _ hne.symm).trans ?_)
    exact Memory.read_write_self _ _ _

end PlainStack

/-- The word on top of the stack is one word. -/
theorem Popped.unique {s : State} {v w : Word} (hv : Popped s v) (hw : Popped s w) : v = w := by
  obtain ⟨lo, hi, hlo, hhi, rfl⟩ := hv
  obtain ⟨lo', hi', hlo', hhi', rfl⟩ := hw
  cases hlo.symm.trans hlo'
  cases hhi.symm.trans hhi'
  rfl

/-- A word on top of the stack is one the bus answers. -/
theorem Popped.canPop {s : State} {v : Word} (hv : Popped s v) : s.canPop = true := by
  obtain ⟨lo, hi, hlo, hhi, -⟩ := hv
  have hreadable : ∀ {a : Word} {b : Byte}, memRead s a = .ok b → s.readable a = true := by
    intro a b hb
    rcases memRead_cases s a with ⟨hr, -⟩ | ⟨-, -, hr, -⟩ | ⟨-, -, hr, -⟩
    · exact hr
    · rw [hr] at hb; cases hb
    · rw [hr] at hb; cases hb
  rw [State.canPop, hreadable hlo, hreadable hhi]
  rfl

/-- Settles O49: the pop reads the word the push left on the stack, and writes the pair back as it was. -/
theorem popUndoesPush : Obligations.PopUndoesPush := by
  intro p s hplain hf
  obtain ⟨t, hpushed, -, hpush⟩ := exec_push_of_canPush p (canPush_of_plainStack hplain)
  have hpopped := popped_of_pushed hplain hpushed { s.cpu with sp := s.cpu.sp - 2#16 }
    (Params.baseCost t.params (opcodeKey (Form.push p)) 4) rfl
  obtain ⟨v, hv, hpop⟩ := exec_pop_of_canPop p hpopped.canPop
  refine ⟨_, _, hpush, hpop, ?_⟩
  have hsp : s.cpu.sp - 2#16 + 2#16 = s.cpu.sp := by bv_omega
  show Cpu.setStackPair { s.cpu with sp := s.cpu.sp - 2#16 + 2#16 } p v = s.cpu
  rw [hsp, hv.unique hpopped]
  exact Cpu.setStackPair_stackPair hf p

end Sys2Proof.Machine

namespace Sys2Proof.Machine

/-! ## The cartridge windows (O25) -/

section Windows

variable (s : State) {a : Word} (v : Byte)

theorem memRead_rom (h : a.toNat < 0x8000) : memRead s a = s.cart.romRead a.toNat := by
  simp only [memRead, regionOf_rom h]

theorem memWrite_rom (h : a.toNat < 0x8000) : memWrite s a v = .ok { s with cart := s.cart.romWrite a.toNat v } := by
  simp only [memWrite, regionOf_rom h]

theorem memRead_xram (h : 0xA000 ≤ a.toNat) (h' : a.toNat < 0xC000) : memRead s a = s.cart.xramRead a.toNat := by
  simp only [memRead, regionOf_xram h h']

theorem memWrite_xram_ok {c : Cart} (h : 0xA000 ≤ a.toNat) (h' : a.toNat < 0xC000)
    (hc : s.cart.xramWrite a.toNat v = .ok c) : memWrite s a v = .ok { s with cart := c } := by
  simp only [memWrite, regionOf_xram h h', hc]

theorem memWrite_xram_error {r : Refusal} (h : 0xA000 ≤ a.toNat) (h' : a.toNat < 0xC000)
    (hc : s.cart.xramWrite a.toNat v = .error r) : memWrite s a v = .error r := by
  simp only [memWrite, regionOf_xram h h', hc]

end Windows

section RomWindow

variable {c : Cart} {n : Nat}

theorem romOffset_low (b : Nat) (h : n < 0x4000) : romOffset b n = n := if_pos h

theorem romOffset_high (b : Nat) (h : 0x4000 ≤ n) :
    romOffset b n = (if b = 0 then 1 else b) * 0x4000 + (n - 0x4000) := if_neg (by omega)

theorem romRead_none (hc : c.ctrl = .none) : c.romRead n = .ok (c.rom.read n) := by
  simp only [Cart.romRead, hc]

theorem romRead_mbc1 {r : Mbc1} (hc : c.ctrl = .mbc1 r) :
    c.romRead n = .ok (c.rom.read (romOffset r.romBank.toNat n)) := by
  simp only [Cart.romRead, hc]

theorem romRead_mbc3 {r : Mbc3} (hc : c.ctrl = .mbc3 r) :
    c.romRead n = if n < 0x4000 ∨ romOffset r.romBank.toNat n < c.romSize
      then .ok (c.rom.read (romOffset r.romBank.toNat n)) else .error .romOutOfRange := by
  simp only [Cart.romRead, hc]

/-- Above 0x4000 an MBC3-style read is of the selected bank, inside the image (R77). -/
theorem romRead_mbc3_high {r : Mbc3} (hc : c.ctrl = .mbc3 r) (h : 0x4000 ≤ n) :
    c.romRead n =
      (let off := (if r.romBank.toNat = 0 then 1 else r.romBank.toNat) * 0x4000 + (n - 0x4000)
       if off < c.bankCount * 0x4000 then .ok (c.rom.read off) else .error .romOutOfRange) := by
  rw [romRead_mbc3 hc, romOffset_high _ h]
  exact if_congr (or_iff_right (by omega)) rfl rfl

end RomWindow

section XramWindow

variable {c : Cart} {b : Nat} (n : Nat) (v : Byte)

theorem xram_closed (h : c.ramBankOpen = none) : c.xramRead n = .ok 0xFF#8 ∧ c.xramWrite n v = .ok c := by
  simp only [Cart.xramRead, Cart.xramWrite, h, Config.openBus, and_self]

variable {n}

theorem xram_inside (h : c.ramBankOpen = some b) (hn : b * 0x2000 + (n - 0xA000) < c.ramSize) :
    c.xramRead n = .ok (c.xram.read (b * 0x2000 + (n - 0xA000))) ∧
      c.xramWrite n v = .ok { c with xram := c.xram.write (b * 0x2000 + (n - 0xA000)) v } := by
  simp only [Cart.xramRead, Cart.xramWrite, h, if_pos hn, and_self]

theorem xram_outside (h : c.ramBankOpen = some b) (hn : c.ramSize ≤ b * 0x2000 + (n - 0xA000)) :
    c.xramRead n = .error .xramOutOfRange ∧ c.xramWrite n v = .error .xramOutOfRange := by
  simp only [Cart.xramRead, Cart.xramWrite, h, if_neg (Nat.not_lt.2 hn), and_self]

theorem ramBankOpen_mbc3 {r : Mbc3} (hc : c.ctrl = .mbc3 r) (hsize : c.ramSize ≠ 0) :
    c.ramBankOpen = if r.ramEnable then some r.ramBank.toNat else none := by
  simp only [Cart.ramBankOpen, if_neg hsize, hc]

end XramWindow

/-- Settles O25: one clause for each window of each controller. -/
theorem cartridgeShowsTheSelectedBank : Obligations.CartridgeShowsTheSelectedBank := by
  intro s a v n
  refine ⟨fun hc hn => ⟨?_, ?_⟩, fun r hc => ⟨fun hn => ?_, fun hn hn' => ?_⟩, fun r hc => ⟨fun hn => ?_, fun hn hn' => ?_,
    fun hn hn' hsize => ⟨fun hoff => ?_, fun hon hin => ?_, fun hon hout => ?_⟩⟩⟩
  · rw [memRead_rom s hn, romRead_none hc]
  · simp only [memWrite_rom s v hn, Cart.romWrite, hc]
  · rw [memRead_rom s (hn.trans (by decide)), romRead_mbc1 hc, romOffset_low _ hn]
  · rw [memRead_rom s hn', romRead_mbc1 hc, romOffset_high _ hn]
  · rw [memRead_rom s (hn.trans (by decide)), romRead_mbc3 hc, if_pos (.inl hn), romOffset_low _ hn]
  · exact (memRead_rom s hn').trans (romRead_mbc3_high hc hn)
  · have hopen : s.cart.ramBankOpen = none := by simp only [ramBankOpen_mbc3 hc hsize, hoff]; rfl
    obtain ⟨hr, hw⟩ := xram_closed n v hopen
    exact ⟨(memRead_xram s hn hn').trans hr, memWrite_xram_ok s v hn hn' hw⟩
  · have hopen : s.cart.ramBankOpen = some r.ramBank.toNat := by rw [ramBankOpen_mbc3 hc hsize, if_pos hon]
    obtain ⟨hr, hw⟩ := xram_inside v hopen hin
    exact ⟨(memRead_xram s hn hn').trans hr, memWrite_xram_ok s v hn hn' hw⟩
  · have hopen : s.cart.ramBankOpen = some r.ramBank.toNat := by rw [ramBankOpen_mbc3 hc hsize, if_pos hon]
    obtain ⟨hr, hw⟩ := xram_outside v hopen hout
    exact ⟨(memRead_xram s hn hn').trans hr, memWrite_xram_error s v hn hn' hw⟩

end Sys2Proof.Machine

namespace Sys2Proof

/-! ## Every encoding reads back (O6) -/

section Rows

variable {α : Type}

/-- The entry of a page of sixteen rows at a byte: the high nibble picks the row, the low nibble the column. -/
def rowEntry (rows : List (List α)) (b : Byte) (d : α) : α := (rows.getD (b.toNat / 16) []).getD (b.toNat % 16) d

theorem getD_flatten_of_length {rows : List (List α)} {n : Nat} (h : ∀ r ∈ rows, r.length = n) (hi : Nat) {lo : Nat}
    (hlo : lo < n) (d : α) : rows.flatten.getD (n * hi + lo) d = (rows.getD hi []).getD lo d := by
  induction rows generalizing hi with
  | nil => rfl
  | cons r rows ih =>
    obtain ⟨hr, hrows⟩ := List.forall_mem_cons.1 h
    rw [List.flatten_cons]
    cases hi with
    | zero => rw [Nat.mul_zero, Nat.zero_add, List.getD_append _ _ _ _ (hr ▸ hlo), List.getD_cons_zero]
    | succ hi =>
      have hindex : n * (hi + 1) + lo - r.length = n * hi + lo := by rw [hr, Nat.mul_succ]; omega
      have hpast : r.length ≤ n * (hi + 1) + lo := by rw [hr, Nat.mul_succ]; omega
      rw [List.getD_append_right _ _ _ _ hpast, hindex, ih hrows, List.getD_cons_succ]

/-- Looking a byte up in the joined page is looking it up in its row. -/
theorem getD_flatten_eq_rowEntry {rows : List (List α)} (h : ∀ r ∈ rows, r.length = 16) (b : Byte) (d : α) :
    rows.flatten.getD b.toNat d = rowEntry rows b d := by
  have hlookup := getD_flatten_of_length h (b.toNat / 16) (Nat.mod_lt b.toNat (by decide)) d
  rwa [Nat.div_add_mod] at hlookup

end Rows

/-- The primary page, row by row (R105). -/
def primaryRows : List (List (Byte → Byte → Instr)) :=
  [primaryRow0, primaryRow1, primaryRow2, primaryRow3, primaryRow4, primaryRow5, primaryRow6, primaryRow7,
   primaryRow8, primaryRow9, primaryRowA, primaryRowB, primaryRowC, primaryRowD, primaryRowE, primaryRowF]

/-- The secondary page, row by row (R99). -/
def secondaryRows : List (List Instr) :=
  [secondaryRow0, secondaryRow1, secondaryRow2, secondaryRow3, secondaryRow4, secondaryRow5, secondaryRow6, secondaryRow7,
   secondaryRow8, secondaryRow9, secondaryRowA, secondaryRowB, secondaryRowC, secondaryRowD, secondaryRowE, secondaryRowF]

theorem primaryPage_eq : primaryPage = primaryRows.flatten := by
  simp only [primaryPage, primaryRows, List.flatten_cons, List.flatten_nil, List.append_nil, List.append_assoc]

theorem secondaryPage_eq : secondaryPage = secondaryRows.flatten := by
  simp only [secondaryPage, secondaryRows, List.flatten_cons, List.flatten_nil, List.append_nil, List.append_assoc]

theorem primaryRows_length : ∀ r ∈ primaryRows, r.length = 16 := by
  simp [primaryRows, primaryRow0, primaryRow1, primaryRow2, primaryRow3, primaryRow4, primaryRow5, primaryRow6, primaryRow7,
    primaryRow8, primaryRow9, primaryRowA, primaryRowB, primaryRowC, primaryRowD, primaryRowE, primaryRowF]

theorem secondaryRows_length : ∀ r ∈ secondaryRows, r.length = 16 := by decide

/-- The instruction the bytes select, looked up in the rows of its page. -/
def rowDecode (b0 b1 b2 : Byte) : Instr :=
  if b0 = 0xCB#8 then rowEntry secondaryRows b1 .nop else rowEntry primaryRows b0 (fun _ _ => .nop) b1 b2

theorem decode3_eq_rowDecode (b0 b1 b2 : Byte) : decode3 b0 b1 b2 = rowDecode b0 b1 b2 := by
  rw [decode3, rowDecode, primaryPage_eq, secondaryPage_eq, getD_flatten_eq_rowEntry primaryRows_length,
    getD_flatten_eq_rowEntry secondaryRows_length]

/-- The bytes of `i` are as many as the first of them says, and select `i` (R91, R105). -/
def ReadsBack (i : Instr) : Prop :=
  match encode i with
  | [b0] => lengthOf b0 = 1 ∧ rowDecode b0 0#8 0#8 = i
  | [b0, b1] => lengthOf b0 = 2 ∧ rowDecode b0 b1 0#8 = i
  | [b0, b1, b2] => lengthOf b0 = 3 ∧ rowDecode b0 b1 b2 = i
  | _ => False

/-- One table entry for each constructor the decoder answers; a 16-bit operand is its two bytes (R94). -/
theorem readsBack {i : Instr} (h : wellFormed i = true) : ReadsBack i := by
  cases i
  case prefixCB op2 => cases h
  case ldBC_d16 v | ldDE_d16 v | ldHL_d16 v | ldSP_d16 v | ldMa16_SP v | ldMa16_A v | ldA_Ma16 v | jp_a16 v | jpNZ_a16 v
    | jpZ_a16 v | jpNC_a16 v | jpC_a16 v | call_a16 v | callNZ_a16 v | callZ_a16 v | callNC_a16 v | callC_a16 v =>
    exact And.intro rfl (congrArg _ (Machine.word_hi_lo v))
  all_goals exact And.intro rfl rfl

/-- An encoding has one, two or three bytes, as its first byte says, and they select the instruction. -/
theorem encode_cases {i : Instr} (h : wellFormed i = true) :
    (∃ b0, encode i = [b0] ∧ lengthOf b0 = 1 ∧ decode3 b0 0#8 0#8 = i) ∨
    (∃ b0 b1, encode i = [b0, b1] ∧ lengthOf b0 = 2 ∧ decode3 b0 b1 0#8 = i) ∨
    (∃ b0 b1 b2, encode i = [b0, b1, b2] ∧ lengthOf b0 = 3 ∧ decode3 b0 b1 b2 = i) := by
  have hback := readsBack h
  unfold ReadsBack at hback
  simp only [← decode3_eq_rowDecode] at hback
  split at hback
  · exact .inl ⟨_, by assumption, hback⟩
  · exact .inr (.inl ⟨_, _, by assumption, hback⟩)
  · exact .inr (.inr ⟨_, _, _, by assumption, hback⟩)
  · cases hback

namespace Machine

theorem fetch8_of_read {s : State} {v : Byte} (h : memRead s s.cpu.pc = .ok v) :
    fetch8 s = .ok (v, s.setPc (s.cpu.pc + 1#16)) := by
  simp only [fetch8, h]

/-- Moving `PC` does not change what the bus reads. -/
theorem memRead_setPc (s : State) (pc a : Word) : memRead (s.setPc pc) a = memRead s a :=
  memRead_withCpu s _ s.cost s.cycles a

/-- A fetch at the `k`-th byte after `PC`. -/
theorem fetch8_at {s : State} {k : Nat} {v : Byte} (h : memRead s (s.cpu.pc + BitVec.ofNat 16 k) = .ok v) :
    fetch8 (s.setPc (s.cpu.pc + BitVec.ofNat 16 k)) = .ok (v, s.setPc (s.cpu.pc + BitVec.ofNat 16 (k + 1))) := by
  have hread : memRead (s.setPc (s.cpu.pc + BitVec.ofNat 16 k)) (s.setPc (s.cpu.pc + BitVec.ofNat 16 k)).cpu.pc = .ok v :=
    (memRead_setPc s _ _).trans h
  have hnext : s.cpu.pc + BitVec.ofNat 16 k + 1#16 = s.cpu.pc + BitVec.ofNat 16 (k + 1) := by
    rw [BitVec.add_assoc, ← BitVec.ofNat_add]
  rw [fetch8_of_read hread, State.setPc_cpu, hnext]
  rfl

/-- The bytes of a well-formed instruction at `PC` are fetched as that instruction, `PC` past it (R15, R91). -/
theorem fetchInstr_of_encode {i : Instr} {s : State} (h : wellFormed i = true)
    (hbytes : ∀ (k : Nat) (v : Byte), (encode i)[k]? = some v → memRead s (s.cpu.pc + BitVec.ofNat 16 k) = .ok v) :
    fetchInstr s = .ok (i, s.setPc (s.cpu.pc + BitVec.ofNat 16 (encode i).length)) := by
  have hfirst : ∀ v, (encode i)[0]? = some v → fetch8 s = .ok (v, s.setPc (s.cpu.pc + BitVec.ofNat 16 1)) := fun v hv => by
    have hread := hbytes 0 v hv
    rw [BitVec.add_zero] at hread
    exact fetch8_of_read hread
  rcases encode_cases h with ⟨b0, he, hlen, hi⟩ | ⟨b0, b1, he, hlen, hi⟩ | ⟨b0, b1, b2, he, hlen, hi⟩ <;>
    rw [he] at hbytes hfirst ⊢ <;> simp only [fetchInstr, hfirst b0 rfl, hlen]
  · rw [hi]; rfl
  · simp only [fetch8_at (hbytes 1 b1 rfl), hi]; rfl
  · simp only [fetch8_at (hbytes 1 b1 rfl), fetch8_at (hbytes 2 b2 rfl), hi]; rfl

/-- Settles O6: the fetch answers the encoded instruction, and the step runs what was fetched. -/
theorem stepRunsTheDecodedInstruction : Obligations.StepRunsTheDecodedInstruction := by
  intro i s hwf hmode hbytes
  have hfetch : fetchInstr (beginStep s) =
      .ok (i, (beginStep s).setPc (s.cpu.pc + BitVec.ofNat 16 (encode i).length)) := by
    refine fetchInstr_of_encode hwf fun k v hv => ?_
    obtain ⟨hk, rfl⟩ := List.getElem?_eq_some_iff.1 hv
    exact (memRead_withCpu s _ s.cost s.cycles _).trans (hbytes k hk)
  have hrun : runInstr (beginStep s) = exec i ((beginStep s).setPc (s.cpu.pc + BitVec.ofNat 16 (encode i).length)) := by
    have hmode' : (beginStep s).cpu.mode = .running := hmode
    simp only [runInstr, hmode', hfetch, onOk_ok]
  rw [step, hrun]
  rfl

end Machine

end Sys2Proof

namespace Sys2Proof.Machine

/-! ## Which steps stop (O13, O14) -/

/-- No elementary move brings a refusal to an ordinary cartridge: only bus writes reach the cartridge. -/
theorem kept_neverRefuses : Kept fun s => s.cart.neverRefuses = true where
  cpu _ _ _ _ _ h := h
  write _ _ _ _ hw h := memWrite_never hw h
  timer _ _ _ h := h
  dma _ _ _ h := h
  oam _ _ _ h := h
  ppu _ _ _ h := h

/-- An ordinary cartridge gives no reason to refuse: not external RAM out of range, and not the kind MBC3-style. -/
theorem not_refused_of_neverRefuses {s : State} (h : s.cart.neverRefuses = true) (o : Out) : ¬ Refused s o := by
  rintro (⟨-, -, hrefuses⟩ | ⟨-, r, hmbc3⟩)
  · rw [h] at hrefuses; cases hrefuses
  · simp only [Cart.neverRefuses, hmbc3] at h; cases h

/-- Settles O13: a step stops only for a reason of the cartridge, and an ordinary cartridge stays one that gives none. -/
theorem noStepStopsOnAnOrdinaryCartridge : Obligations.NoStepStopsOnAnOrdinaryCartridge := by
  intro s h
  rcases step_answer s with ⟨t, ht⟩ | hrefused
  · exact ⟨t, ht, kept_neverRefuses.step ht h⟩
  · exact absurd hrefused (not_refused_of_neverRefuses h _)

/-- Settles O14: the outcomes of `step_answer`. -/
theorem stepsStopOnlyOutsideTheCartridge : Obligations.StepsStopOnlyOutsideTheCartridge := by
  intro s
  rcases step_answer s with hnext | ⟨hxram, hsize, -⟩ | hrom
  · exact .inl hnext
  · exact .inr (.inl ⟨hxram, hsize⟩)
  · exact .inr (.inr hrom)

/-! ## Which accesses the bus answers (O21) -/

theorem memRead_answered_iff (s : State) (a : Word) : (∃ b, memRead s a = .ok b) ↔ s.readable a = true := by
  rcases memRead_cases s a with ⟨hr, hok⟩ | ⟨hr, -, herr, -⟩ | ⟨hr, -, herr, -⟩
  · exact iff_of_true hok hr
  all_goals simp [herr, hr]

theorem memWrite_answered_iff (s : State) (a : Word) (v : Byte) : (∃ t, memWrite s a v = .ok t) ↔ s.writable a = true := by
  rcases memWrite_cases s a v with ⟨hw, t, hok, -⟩ | ⟨hw, herr, -⟩
  · exact iff_of_true ⟨t, hok⟩ hw
  · simp [herr, hw]

/-- The address alone decides the reason of a refused read (R75, R77). -/
theorem memRead_refusal {s : State} {a : Word} {r : Refusal} (h : memRead s a = .error r) :
    r = if a.toNat < 0x8000 then Refusal.romOutOfRange else .xramOutOfRange := by
  rcases memRead_cases s a with ⟨-, b, hok⟩ | ⟨-, hlow, herr, -⟩ | ⟨-, hhigh, herr, -⟩
  · rw [hok] at h; cases h
  · rw [herr] at h; cases h; exact (if_pos hlow).symm
  · rw [herr] at h; cases h; exact (if_neg (Nat.not_lt.2 hhigh)).symm

theorem memWrite_refusal {s : State} {a : Word} {v : Byte} {r : Refusal} (h : memWrite s a v = .error r) :
    r = Refusal.xramOutOfRange := by
  rcases memWrite_cases s a v with ⟨-, t, hok, -⟩ | ⟨-, herr, -⟩
  · rw [hok] at h; cases h
  · rw [herr] at h; cases h; rfl

/-- Settles O21: which accesses are answered, and the reason when one is not. -/
theorem busAnswersUnlessOutsideTheCartridge : Obligations.BusAnswersUnlessOutsideTheCartridge := fun s a v =>
  ⟨memRead_answered_iff s a, memWrite_answered_iff s a v, fun _ => memRead_refusal, fun _ => memWrite_refusal⟩

/-! ## What a bus write leaves alone (O22, O60) -/

section OneWrite

variable {s t : State} {a b : Word} {v : Byte}

/-- A write outside plain storage leaves RAM alone. -/
theorem memWrite_ram_of_not_plain (ha : plainStorage a = false) (h : memWrite s a v = .ok t) : t.ram = s.ram := by
  have hplain := mt (plainStorage_iff a).2 (Bool.eq_false_iff.1 ha)
  cases hr : regionOf a
  case vram | wram | echo | oam | unused | hram => exact absurd (by simp [hr]) hplain
  all_goals simp only [memWrite, hr] at h
  case rom | ie => cases h; rfl
  case xram => split at h <;> cases h; rfl
  case io =>
    split at h <;> cases h
    · rename_i r _
      cases r <;> simp [State.writeIo]
    · rfl

/-- A write changes the read of no other location, if one of the two is plain storage: a device or cartridge window does not
look at plain storage, and plain storage keeps only what is written to it (R41, R42). -/
theorem memRead_after_write_elsewhere (h : memWrite s a v = .ok t) (hplain : plainStorage a = true ∨ plainStorage b = true)
    (hne : ramHome s.params a ≠ ramHome s.params b) : memRead t b = memRead s b := by
  by_cases ha : plainStorage a = true
  · rw [memWrite_plain s ha] at h
    cases h
    by_cases hb : plainStorage b = true
    · rw [memRead_plain _ hb, memRead_plain s hb]
      exact congrArg Except.ok (Memory.read_write_ne s.ram v hne)
    · exact memRead_withRam s _ (Bool.eq_false_iff.2 hb)
  · have hb := hplain.resolve_left ha
    rw [memRead_plain t hb, memRead_plain s hb, (memWrite_untouched h).params,
      memWrite_ram_of_not_plain (Bool.eq_false_iff.2 ha) h]

end OneWrite

/-- Settles O22: a write to plain storage is a write of RAM at the location's home, seen at that home only. -/
theorem plainStorageKeepsTheLastByteWritten : Obligations.PlainStorageKeepsTheLastByteWritten := by
  intro s a v ha
  have hwrite := memWrite_plain s ha v
  have hback : ∀ b, plainStorage b = true → ramHome s.params b = ramHome s.params a →
      memRead { s with ram := Memory.write s.ram (ramHome s.params a) v } b = .ok v := fun b hb hhome => by
    rw [memRead_plain _ hb, hhome, Memory.read_write_self]
  refine ⟨_, hwrite, hback a ha rfl, rfl, fun b => ?_⟩
  split
  · rename_i hb
    exact hback b hb.1 hb.2
  · rename_i hb
    by_cases hplain : plainStorage b = true
    · exact memRead_after_write_elsewhere hwrite (.inl ha) fun hhome => hb ⟨hplain, hhome.symm⟩
    · exact memRead_withRam s _ (Bool.eq_false_iff.2 hplain)

section Effects

variable {s t : State} {l : List Word}

/-- Without a store only CPU registers and the reported cost change. -/
theorem Effect.eq_of_noStore (e : Effect s l t) (hl : l = []) : t = { s with cpu := t.cpu, cost := t.cost } := by
  induction e with
  | cpu s p n hf => rfl
  | store hw _ _ => cases hl
  | move p hf _ ih => exact (ih hl).trans rfl

/-- Every location that is none of the stored ones reads as before, if it is plain storage or all the stored ones are. -/
theorem Effect.memRead_elsewhere (e : Effect s l t) {b : Word}
    (hplain : plainStorage b = true ∨ ∀ a ∈ l, plainStorage a = true)
    (hne : ∀ a ∈ l, ramHome s.params a ≠ ramHome s.params b) : memRead t b = memRead s b := by
  induction e with
  | cpu s p n hf => exact memRead_withCpu s p n s.cycles b
  | @store s u t a v l hw _ ih =>
    rw [List.forall_mem_cons] at hplain hne
    have hfirst : memRead u b = memRead s b :=
      memRead_after_write_elsewhere hw (hplain.symm.imp_left And.left) hne.1
    rw [(memWrite_untouched hw).params] at ih
    exact (ih (hplain.imp_right And.right) hne.2).trans hfirst
  | @move s t l p hf _ ih => exact (ih hplain hne).trans (memRead_withCpu s p s.cost s.cycles b)

end Effects

/-- Settles O60: an instruction's effect is its stores at `storedAddrs` and changes of the CPU. -/
theorem instructionsStoreOnlyWhereTheySay : Obligations.InstructionsStoreOnlyWhereTheySay := by
  intro i s t h
  have heffect := exec_effect h
  refine ⟨fun hnone => ⟨heffect.eq_of_noStore hnone, fun a => ?_⟩, fun a ha => heffect.memRead_elsewhere (.inl ha),
    fun hstored a => heffect.memRead_elsewhere (.inr hstored)⟩
  exact heffect.memRead_elsewhere (.inr (by simp [hnone])) (by simp [hnone])

/-! ## The bank registers (O26) -/

theorem ramEnableOf_eq (v : Byte) : ramEnableOf v = decide (v.toNat % 16 = 0x0A) := by
  have hlow : (v &&& 0x0F#8).toNat = v.toNat % 16 := by
    rw [BitVec.toNat_and]; exact Nat.and_two_pow_sub_one_eq_mod v.toNat 4
  refine Bool.eq_iff_iff.2 ?_
  rw [ramEnableOf, beq_iff_eq, decide_eq_true_iff, ← BitVec.toNat_inj, hlow]
  rfl

/-- `MASK` of a legal bank count keeps the low bits that number its banks, at most five (R74). -/
theorem bankMask_spec {n : Nat} (h : n ∈ [2, 4, 8, 16, 32, 64, 128]) :
    ∃ k ≤ 5, (bankMask n).toNat = 2 ^ k - 1 ∧ min n 32 = 2 ^ k := by
  revert h n
  decide

/-- Masking a bank number is taking it modulo the bank count (R74). -/
theorem masked_toNat {n : Nat} (h : n ∈ [2, 4, 8, 16, 32, 64, 128]) (v : Byte) :
    ((v &&& 0x1F#8) &&& bankMask n).toNat = v.toNat % 32 % min n 32 := by
  obtain ⟨k, -, hmask, hmin⟩ := bankMask_spec h
  rw [BitVec.toNat_and, BitVec.toNat_and, hmask, hmin, Nat.and_two_pow_sub_one_eq_mod]
  exact congrArg (· % 2 ^ k) (Nat.and_two_pow_sub_one_eq_mod v.toNat 5)

/-- A bank number of five bits fits the MBC1-style register, and 0 becomes 1 (R73, R74). -/
theorem mbc1_romBank_toNat {n : Nat} (h : n ∈ [2, 4, 8, 16, 32, 64, 128]) (v : Byte) :
    (BitVec.ofNat 5 (bankOf ((v &&& 0x1F#8) &&& bankMask n).toNat)).toNat =
      bankOf (v.toNat % 32 % min n 32) := by
  rw [masked_toNat h, BitVec.toNat_ofNat]
  have hlt : v.toNat % 32 % min n 32 < 32 := (Nat.mod_le _ _).trans_lt (Nat.mod_lt _ (by decide))
  refine Nat.mod_eq_of_lt ?_
  unfold bankOf
  split <;> omega

/-- A bank number of seven bits fits the MBC3-style register, and 0 becomes 1 (R76). -/
theorem mbc3_romBank_toNat (v : Byte) :
    (BitVec.ofNat 7 (bankOf (v &&& 0x7F#8).toNat)).toNat = bankOf (v.toNat % 128) := by
  have hlow : (v &&& 0x7F#8).toNat = v.toNat % 128 := by
    rw [BitVec.toNat_and]; exact Nat.and_two_pow_sub_one_eq_mod v.toNat 7
  rw [hlow, BitVec.toNat_ofNat]
  refine Nat.mod_eq_of_lt ?_
  unfold bankOf
  split <;> omega

theorem extractLow_eq_ofNat (k : Nat) (v : Byte) : v.extractLsb' 0 k = BitVec.ofNat k v.toNat := rfl

section BankRegisters

variable {n a : Nat} (v : Byte)

theorem Mbc1.write_ramEnable (r : Mbc1) (h : a < 0x2000) :
    r.write n a v = { r with ramEnable := ramEnableOf v } := if_pos h

theorem Mbc1.write_romBank (r : Mbc1) (h : 0x2000 ≤ a) (h' : a < 0x4000) :
    r.write n a v = { r with romBank := BitVec.ofNat 5 (bankOf ((v &&& 0x1F#8) &&& bankMask n).toNat) } := by
  rw [Mbc1.write, if_neg (by omega), if_pos h']

theorem Mbc1.write_ramBank (r : Mbc1) (h : 0x4000 ≤ a) (h' : a < 0x6000) :
    r.write n a v = { r with ramBank := v.extractLsb' 0 2 } := by
  rw [Mbc1.write, if_neg (by omega), if_neg (by omega), if_pos h']

theorem Mbc1.write_bankMode (r : Mbc1) (h : 0x6000 ≤ a) : r.write n a v = { r with bankMode := v.extractLsb' 0 1 } := by
  rw [Mbc1.write, if_neg (by omega), if_neg (by omega), if_neg (by omega)]

theorem Mbc3.write_ramEnable (r : Mbc3) (h : a < 0x2000) : r.write a v = { r with ramEnable := ramEnableOf v } := if_pos h

theorem Mbc3.write_romBank (r : Mbc3) (h : 0x2000 ≤ a) (h' : a < 0x4000) :
    r.write a v = { r with romBank := BitVec.ofNat 7 (bankOf (v &&& 0x7F#8).toNat) } := by
  rw [Mbc3.write, if_neg (by omega), if_pos h']

theorem Mbc3.write_ramBank (r : Mbc3) (h : 0x4000 ≤ a) (h' : a < 0x6000) : r.write a v = { r with ramBank := v } := by
  rw [Mbc3.write, if_neg (by omega), if_neg (by omega), if_pos h']

theorem Mbc3.write_dropped (r : Mbc3) (h : 0x6000 ≤ a) : r.write a v = r := by
  rw [Mbc3.write, if_neg (by omega), if_neg (by omega), if_neg (by omega)]

end BankRegisters

/-- Settles O26: a write of the ROM window is the controller's register write, range by range. -/
theorem bankRegisterWrites : Obligations.BankRegisterWrites := by
  intro s a v n hn
  refine ⟨fun r hc hlegal => ⟨r.write s.cart.bankCount n v, ?_, fun h => ?_, fun h h' => ?_, fun h h' => ?_, fun h => ?_⟩,
    fun r hc => ⟨r.write n v, ?_, fun h => ?_, fun h h' => ?_, fun h h' => ?_, fun h => ?_⟩⟩
  · simp only [memWrite_rom s v hn, Cart.romWrite, hc]; rfl
  · rw [Mbc1.write_ramEnable v r h, ramEnableOf_eq]
  · have hbanks := List.contains_iff_mem.1 hlegal
    rw [Mbc1.write_romBank v r h h']
    exact ⟨rfl, (bankOf_masked hbanks v).2, mbc1_romBank_toNat hbanks v⟩
  · rw [Mbc1.write_ramBank v r h h', extractLow_eq_ofNat]
  · rw [Mbc1.write_bankMode v r h, extractLow_eq_ofNat]
  · simp only [memWrite_rom s v hn, Cart.romWrite, hc]; rfl
  · rw [Mbc3.write_ramEnable v r h, ramEnableOf_eq]
  · rw [Mbc3.write_romBank v r h h']
    exact ⟨rfl, mbc3_romBank_toNat v⟩
  · exact Mbc3.write_ramBank v r h h'
  · exact Mbc3.write_dropped v r h

/-! ## The regions of the bus (O19, O20) -/

section PlainRegions

variable {s : State} {a : Word}

/-- The addresses of plain storage, by range (R44 to R46). -/
theorem plainStorage_iff_range (a : Word) : plainStorage a = true ↔
    (0x8000 ≤ a.toNat ∧ a.toNat < 0xA000) ∨ (0xC000 ≤ a.toNat ∧ a.toNat < 0xFF00) ∨
      (0xFF80 ≤ a.toNat ∧ a.toNat < 0xFFFF) := by
  simp only [plainStorage, Bool.or_eq_true, Bool.and_eq_true, decide_eq_true_eq, or_assoc]

theorem ramHome_outside_echo (p : Params) (h : a.toNat < 0xE000 ∨ 0xFE00 ≤ a.toNat) : ramHome p a = a.toNat := by
  refine ramHome_self p fun hecho => ?_
  have hspan := regionOf_spans a
  rw [hecho] at hspan
  obtain ⟨hlow, hhigh⟩ := hspan
  omega

/-- Plain storage outside the echo is at the address itself. -/
theorem memRead_own (hplain : plainStorage a = true) (h : a.toNat < 0xE000 ∨ 0xFE00 ≤ a.toNat) :
    memRead s a = .ok (Memory.read s.ram a.toNat) := by
  rw [memRead_plain s hplain, ramHome_outside_echo s.params h]

theorem memWrite_own (v : Byte) (hplain : plainStorage a = true) (h : a.toNat < 0xE000 ∨ 0xFE00 ≤ a.toNat) :
    memWrite s a v = .ok { s with ram := Memory.write s.ram a.toNat v } := by
  rw [memWrite_plain s hplain, ramHome_outside_echo s.params h]

theorem memRead_echo (h : regionOf a = .echo) :
    memRead s a = .ok (Memory.read s.ram (0xC000 + Params.echoOffset s.params a.toNat)) := by
  rw [memRead_plain s (plainStorage_of_echo h), ramHome_echo s.params h]

theorem memWrite_echo (v : Byte) (h : regionOf a = .echo) :
    memWrite s a v = .ok { s with ram := Memory.write s.ram (0xC000 + Params.echoOffset s.params a.toNat) v } := by
  rw [memWrite_plain s (plainStorage_of_echo h), ramHome_echo s.params h]

end PlainRegions

section IoRegion

variable (s : State) {a : Word} (v : Byte) (h : 0xFF00 ≤ a.toNat) (h' : a.toNat < 0xFF80)
include h h'

theorem memRead_io_mapped {r : IoReg} (hr : ioRegAt a = some r) : memRead s a = .ok (s.readIo r) := by
  simp only [memRead, regionOf_io h h', hr]

theorem memRead_io_unmapped (hr : ioRegAt a = none) : memRead s a = .ok 0xFF#8 := by
  simp only [memRead, regionOf_io h h', hr, Config.openBus]

theorem memWrite_io_mapped {r : IoReg} (hr : ioRegAt a = some r) : memWrite s a v = .ok (s.writeIo r v) := by
  simp only [memWrite, regionOf_io h h', hr]

theorem memWrite_io_unmapped (hr : ioRegAt a = none) : memWrite s a v = .ok s := by
  simp only [memWrite, regionOf_io h h', hr]

end IoRegion

theorem memRead_ie (s : State) {a : Word} (h : a.toNat = 0xFFFF) : memRead s a = .ok s.irq.ie := by
  simp only [memRead, regionOf_ie h]

theorem memWrite_ie (s : State) {a : Word} (v : Byte) (h : a.toNat = 0xFFFF) :
    memWrite s a v = .ok { s with irq := { s.irq with ie := v } } := by
  simp only [memWrite, regionOf_ie h]

/-- Settles O19: the read of each region. -/
theorem busReadsByRegion : Obligations.BusReadsByRegion := by
  intro s a n
  have hplain := (plainStorage_iff_range a).2
  refine ⟨memRead_rom s, fun h h' => memRead_own (hplain (by omega)) (by omega), memRead_xram s,
    fun h h' => memRead_own (hplain (by omega)) (by omega), fun h h' => memRead_echo (regionOf_echo h h'),
    fun h h' => memRead_own (hplain (by omega)) (by omega), fun h h' => ?_,
    fun h h' => memRead_own (hplain (by omega)) (by omega), memRead_ie s⟩
  cases hr : ioRegAt a with
  | some r => exact memRead_io_mapped s h h' hr
  | none => exact memRead_io_unmapped s h h' hr

/-- Settles O20: the write of each region, and the image by what every write leaves untouched. -/
theorem busWritesByRegion : Obligations.BusWritesByRegion := by
  intro s a v n
  have hplain := (plainStorage_iff_range a).2
  exact ⟨memWrite_rom s v, fun h h' => memWrite_own v (hplain (by omega)) (by omega),
    fun h h' _ hc => memWrite_xram_ok s v h h' hc, fun h h' => memWrite_own v (hplain (by omega)) (by omega),
    fun h h' => memWrite_echo v (regionOf_echo h h'), fun h h' => memWrite_own v (hplain (by omega)) (by omega),
    fun h h' _ hr => memWrite_io_mapped s v h h' hr, fun h h' hr => memWrite_io_unmapped s v h h' hr,
    fun h h' => memWrite_own v (hplain (by omega)) (by omega), memWrite_ie s v, fun _ ht => (memWrite_untouched ht).rom⟩

/-! ## Unmapped I/O addresses (O24) -/

/-- An address that no entry of the register map has is unmapped (R50, R51). -/
theorem ioRegAt_eq_none {a : Word} (h : a.toNat ∉ ioMap.map Prod.fst) : ioRegAt a = none := by
  refine List.lookup_eq_none_iff.2 fun e he => ?_
  exact bne_iff_ne.2 fun ha => h (ha ▸ List.mem_map_of_mem he)

/-- Settles O24: the addresses listed are those of the register map. -/
theorem unmappedIoReadsOpenBus : Obligations.UnmappedIoReadsOpenBus := by
  intro s a v h h' hlist
  have hr : ioRegAt a = none := ioRegAt_eq_none hlist
  exact ⟨memRead_io_unmapped s h h' hr, memWrite_io_unmapped s v h h' hr⟩

/-! ## External RAM (O27) -/

section XramAccess

variable {s : State} {a : Word} (v : Byte) (h : 0xA000 ≤ a.toNat) (h' : a.toNat < 0xC000)
include h h'

theorem xramAccess_closed (hopen : s.cart.ramBankOpen = none) : memRead s a = .ok 0xFF#8 ∧ memWrite s a v = .ok s := by
  obtain ⟨hread, hwrite⟩ := xram_closed a.toNat v hopen
  exact ⟨(memRead_xram s h h').trans hread, memWrite_xram_ok s v h h' hwrite⟩

theorem xramAccess_inside {b : Nat} (hopen : s.cart.ramBankOpen = some b)
    (hin : b * 0x2000 + (a.toNat - 0xA000) < s.cart.ramSize) :
    memRead s a = .ok (Memory.read s.cart.xram (b * 0x2000 + (a.toNat - 0xA000))) ∧
      memWrite s a v =
        .ok { s with cart := { s.cart with xram := Memory.write s.cart.xram (b * 0x2000 + (a.toNat - 0xA000)) v } } := by
  obtain ⟨hread, hwrite⟩ := xram_inside v hopen hin
  exact ⟨(memRead_xram s h h').trans hread, memWrite_xram_ok s v h h' hwrite⟩

theorem xramAccess_outside {b : Nat} (hopen : s.cart.ramBankOpen = some b)
    (hout : s.cart.ramSize ≤ b * 0x2000 + (a.toNat - 0xA000)) :
    memRead s a = .error .xramOutOfRange ∧ memWrite s a v = .error .xramOutOfRange := by
  obtain ⟨hread, hwrite⟩ := xram_outside v hopen hout
  exact ⟨(memRead_xram s h h').trans hread, memWrite_xram_error s v h h' hwrite⟩

end XramAccess

theorem ramBankOpen_absent {c : Cart} (h : c.ramSize = 0) : c.ramBankOpen = none := if_pos h

theorem ramBankOpen_mbc1 {c : Cart} {r : Mbc1} (hc : c.ctrl = .mbc1 r) (hsize : c.ramSize ≠ 0) :
    c.ramBankOpen = if r.ramEnable then some r.ramBank.toNat else none := by
  simp only [Cart.ramBankOpen, if_neg hsize, hc]

/-- Settles O27: the bank that is open, and the access to it. -/
theorem externalRamGateAndMbc1Banks : Obligations.ExternalRamGateAndMbc1Banks := by
  intro s a v h h'
  refine ⟨fun hsize => xramAccess_closed v h h' (ramBankOpen_absent hsize), fun r hc hsize hoff => ?_,
    fun r hc hsize hon => ?_⟩
  · exact xramAccess_closed v h h' (by simp [ramBankOpen_mbc1 hc hsize, hoff])
  · have hopen : s.cart.ramBankOpen = some r.ramBank.toNat := by rw [ramBankOpen_mbc1 hc hsize, if_pos hon]
    exact ⟨xramAccess_inside v h h' hopen, xramAccess_outside v h h' hopen⟩

end Sys2Proof.Machine

namespace Sys2Proof

/-! ## Decoding and encoding (O1, O2, O3, O4) -/

/-- The entries of the length grid (R104); a byte past a shorter grid would have the default, 1. -/
theorem lengthOf_cases (b0 : Byte) : lengthOf b0 = 1 ∨ lengthOf b0 = 2 ∨ lengthOf b0 = 3 := by
  have htable : ∀ n ∈ lengthTable, n = 1 ∨ n = 2 ∨ n = 3 := by
    simp only [lengthTable, List.forall_mem_append]
    decide
  unfold lengthOf
  rcases lt_or_ge b0.toNat lengthTable.length with hlt | hge
  · rw [List.getD_eq_getElem _ _ hlt]
    exact htable _ (List.getElem_mem hlt)
  · exact .inl (List.getD_eq_default _ _ hge)

section DecodeByLength

variable {b0 b1 b2 : Byte} {r : List Byte}

theorem decode_of_length_one (h : lengthOf b0 = 1) : decode (b0 :: r) = .ok (decode3 b0 0#8 0#8, r) := by
  simp only [decode, h]

theorem decode_of_length_two (h : lengthOf b0 = 2) : decode (b0 :: b1 :: r) = .ok (decode3 b0 b1 0#8, r) := by
  simp only [decode, h]

theorem decode_of_length_three (h : lengthOf b0 = 3) : decode (b0 :: b1 :: b2 :: r) = .ok (decode3 b0 b1 b2, r) := by
  simp only [decode, h]

/-- A string as long as its first byte says decodes (R91). -/
theorem decode_answers (h : lengthOf b0 ≤ (b0 :: r).length) : ∃ i rest, decode (b0 :: r) = .ok (i, rest) := by
  rcases lengthOf_cases b0 with h1 | h2 | h3
  · exact ⟨_, _, decode_of_length_one h1⟩
  · match r with
    | _ :: _ => exact ⟨_, _, decode_of_length_two h2⟩
    | [] => simp [h2] at h
  · match r with
    | _ :: _ :: _ => exact ⟨_, _, decode_of_length_three h3⟩
    | [_] | [] => simp [h3] at h

end DecodeByLength

/-- A string that decodes is the bytes its first byte asks for, which select the instruction, and the rest (R91). -/
theorem decode_ok {bs rest : List Byte} {i : Instr} (h : decode bs = .ok (i, rest)) :
    ∃ b0 b1 b2, i = decode3 b0 b1 b2 ∧ bs = [b0, b1, b2].take (lengthOf b0) ++ rest := by
  unfold decode at h
  split at h
  · cases h
  · split at h
    next hlen => cases h; exact ⟨_, 0#8, 0#8, rfl, by rw [hlen]; rfl⟩
    next hlen => cases h; exact ⟨_, _, 0#8, rfl, by rw [hlen]; rfl⟩
    next hlen => cases h; exact ⟨_, _, _, rfl, by rw [hlen]; rfl⟩
    · cases h

/-- Settles O1: an encoding has one, two or three bytes, as its first byte says, and they select the instruction. -/
theorem decodingAnEncodedInstructionGivesItBack : Obligations.DecodingAnEncodedInstructionGivesItBack := by
  intro i rest h
  rcases encode_cases h with ⟨b0, he, hlen, hi⟩ | ⟨b0, b1, he, hlen, hi⟩ | ⟨b0, b1, b2, he, hlen, hi⟩ <;> rw [he, ← hi]
  · exact decode_of_length_one hlen
  · exact decode_of_length_two hlen
  · exact decode_of_length_three hlen

section ByteRows

variable {α β : Type}

/-- The values of a function of a byte, as sixteen rows of sixteen (R105). -/
def byteRows (g : Byte → β) : List (List β) :=
  (List.range 16).map fun hi => (List.range 16).map fun lo => g (BitVec.ofNat 8 (16 * hi + lo))

theorem rowEntry_byteRows (g : Byte → β) (b : Byte) (d : β) : rowEntry (byteRows g) b d = g b := by
  have hhi : b.toNat / 16 < 16 := by have := b.isLt; omega
  have hlo : b.toNat % 16 < 16 := Nat.mod_lt _ (by decide)
  have hb : BitVec.ofNat 8 (16 * (b.toNat / 16) + b.toNat % 16) = b := by
    rw [Nat.div_add_mod, BitVec.ofNat_toNat, BitVec.setWidth_eq]
  simp [rowEntry, byteRows, hhi, hlo, hb]

theorem rowEntry_map (g : α → β) (rows : List (List α)) (b : Byte) (d : α) :
    rowEntry (rows.map (List.map g)) b (g d) = g (rowEntry rows b d) := by
  have hrow : (rows.map (List.map g)).getD (b.toNat / 16) [] = (rows.getD (b.toNat / 16) []).map g :=
    List.getD_map rows [] (List.map g)
  rw [rowEntry, hrow, List.getD_map, rowEntry]

/-- A page whose rows map to the rows of a function of a byte has that function's value at every byte. -/
theorem map_rowEntry {g : α → β} {h : Byte → β} {rows : List (List α)} (e : rows.map (List.map g) = byteRows h) (b : Byte)
    (d : α) : g (rowEntry rows b d) = h b := by
  rw [← rowEntry_map g, e, rowEntry_byteRows]

end ByteRows

/-- The bytes of the instruction that `b0`, `b1`, `b2` select, its operands as `encode` writes them (R94). -/
def spelling (b0 b1 b2 : Byte) : List Byte :=
  match lengthOf b0 with
  | 1 => [b0]
  | 2 => [b0, b1]
  | _ => [b0, loByte (word b2 b1), hiByte (word b2 b1)]

theorem spelling_eq_take (b0 b1 b2 : Byte) : spelling b0 b1 b2 = [b0, b1, b2].take (lengthOf b0) := by
  rw [spelling, Machine.loByte_word, Machine.hiByte_word]
  rcases lengthOf_cases b0 with h | h | h <;> rw [h] <;> rfl

/-- Every entry of the primary page, that of 0xCB too, encodes to the bytes that selected it (R105). -/
theorem primaryRows_encode (b1 b2 : Byte) :
    primaryRows.map (List.map fun f => encode (f b1 b2)) = byteRows fun b0 => spelling b0 b1 b2 := rfl

/-- Every entry of the secondary page encodes to 0xCB and the byte that selected it (R99). -/
theorem secondaryRows_encode : secondaryRows.map (List.map encode) = byteRows fun b1 => [0xCB#8, b1] := rfl

theorem secondaryRows_wellFormed : secondaryRows.map (List.map wellFormed) = byteRows fun _ => true := rfl

theorem encode_decode3 (b0 b1 b2 : Byte) : encode (decode3 b0 b1 b2) = [b0, b1, b2].take (lengthOf b0) := by
  rw [decode3_eq_rowDecode, rowDecode]
  split
  · rename_i hCB
    rw [map_rowEntry secondaryRows_encode, hCB]
    rfl
  · rw [← spelling_eq_take]
    exact map_rowEntry (primaryRows_encode b1 b2) b0 fun _ _ => .nop

/-- Only `prefixCB` is not well formed (R250). -/
theorem wellFormed_or_prefixCB (i : Instr) : wellFormed i = true ∨ ∃ op2, i = .prefixCB op2 := by
  unfold wellFormed Instr.isPrefix
  split
  · exact .inr ⟨_, rfl⟩
  · exact .inl rfl

/-- The decoder answers well-formed instructions only: the entry of 0xCB in the primary page is not used. -/
theorem wellFormed_decode3 (b0 b1 b2 : Byte) : wellFormed (decode3 b0 b1 b2) = true := by
  by_cases hCB : b0 = 0xCB#8
  · rw [decode3_eq_rowDecode, rowDecode, if_pos hCB]
    exact map_rowEntry secondaryRows_wellFormed b1 .nop
  · refine (wellFormed_or_prefixCB _).resolve_right fun ⟨op2, hi⟩ => hCB ?_
    have hbytes := encode_decode3 b0 b1 b2
    rw [hi] at hbytes
    rcases lengthOf_cases b0 with h | h | h <;> rw [h] at hbytes <;> cases hbytes
    rfl

/-- Settles O2: the bytes taken are the encoding of the instruction they select. -/
theorem decodedBytesAreTheEncoding : Obligations.DecodedBytesAreTheEncoding := by
  intro bs rest i h
  obtain ⟨b0, b1, b2, rfl, rfl⟩ := decode_ok h
  exact ⟨wellFormed_decode3 b0 b1 b2, by rw [encode_decode3]⟩

/-- The first byte of an encoding says how long it is, for `prefixCB` too (R91). -/
theorem encode_length (i : Instr) : ∃ b0 r, encode i = b0 :: r ∧ (encode i).length = lengthOf b0 := by
  rcases wellFormed_or_prefixCB i with h | ⟨op2, rfl⟩
  · rcases encode_cases h with ⟨b0, he, hlen, -⟩ | ⟨b0, b1, he, hlen, -⟩ | ⟨b0, b1, b2, he, hlen, -⟩ <;>
      exact ⟨b0, _, he, by rw [he, hlen]; rfl⟩
  · exact Laws.Encoding.prefixCB op2

/-- A string that decodes is at least as long as its first byte says. -/
theorem lengthOf_le_of_decode_ok {bs rest : List Byte} {i : Instr} (h : decode bs = .ok (i, rest)) :
    ∃ b0 r, bs = b0 :: r ∧ lengthOf b0 ≤ bs.length := by
  obtain ⟨b0, b1, b2, -, rfl⟩ := decode_ok h
  rcases lengthOf_cases b0 with h | h | h <;> rw [h]
  all_goals exact ⟨b0, _, rfl, by simp [h]⟩

/-- Settles O3: the length of an encoding, the entries of the length grid, and both directions of decoding. -/
theorem firstByteFixesTheLength : Obligations.FirstByteFixesTheLength := by
  refine ⟨encode_length, fun b0 => ?_, fun bs => ⟨fun ⟨i, rest, h⟩ => lengthOf_le_of_decode_ok h, ?_⟩⟩
  · have := lengthOf_cases b0
    omega
  · rintro ⟨b0, r, rfl, h⟩
    exact decode_answers h

/-- The bytes of a well-formed instruction, with nothing after them. -/
theorem decode_of_eq_encode {bs : List Byte} {i : Instr} (h : wellFormed i = true) (e : bs = encode i) :
    decode bs = .ok (i, []) := by
  rw [e, ← List.append_nil (encode i)]
  exact decodingAnEncodedInstructionGivesItBack i [] h

/-- Settles O4: each word is the encoding of its instruction. -/
theorem writtenOutWordsDecode : Obligations.WrittenOutWordsDecode := by
  unfold Obligations.WrittenOutWordsDecode
  and_intros <;> exact decode_of_eq_encode rfl rfl

namespace Machine

/-! ## The cycles a step takes (O8) -/

theorem keptByStores_cycles (n : Nat) : KeptByStores fun s => s.cycles = n where
  cpu _ _ _ _ h := h
  write _ _ _ _ e h := (memWrite_untouched e).cycles.trans h

theorem dmaTick_cycles {s t : State} {c : Nat} (e : dmaTick s c = .ok t) : t.cycles = s.cycles := by
  rcases dmaTick_cases s c with ⟨-, h⟩ | ⟨m, h, -⟩ | ⟨-, -, h⟩ <;> rw [h] at e
  · cases e; rfl
  · cases e; rfl
  · split at e
    · rename_i u hu
      cases e
      rw [dmaCopy_frame hu]
    · cases e

/-- What the step reports is the cost of its instruction and the penalty (R261). -/
theorem StepParts.cycles {s u w t : State} (h : StepParts s u w t) : t.cycles = stepCycles s u := by
  refine (keptByStores_cycles _).interruptHalf h.rest ?_
  rw [State.ppuTick_cycles, dmaTick_cycles h.dma, State.timerTick_cycles]

/-- Settles O8: an instruction costs 1 to 6 by the default tables, and the penalty is 5. -/
theorem stepTakesOneToElevenCycles : Obligations.StepTakesOneToElevenCycles := by
  intro s t hc e
  obtain ⟨u, w, h⟩ := step_parts e
  obtain ⟨i, pc, hi⟩ := h.instr
  have hcost := exec_cost hi hc
  rw [h.cycles, stepCycles, penalty, Config.dispatchPenalty]
  split <;> omega

end Machine

end Sys2Proof

namespace Sys2Proof.Machine

/-! ## Loads and stores (O45, O46, O47) -/

/-- The address of R126 to R129 as the rules write it, 0xFF00 plus an offset. -/
theorem highPage_eq (o : Byte) : highPage o = 0xFF00#16 + o.setWidth 16 := by
  apply BitVec.eq_of_toNat_eq
  have := o.isLt
  rw [highPage, word_toNat, BitVec.toNat_add, BitVec.toNat_setWidth, BitVec.toNat_ofNat, BitVec.toNat_ofNat]
  omega

section Operations

variable {s : State} {a : Word}

/-! What each shared operation does once the bus answers its access. -/

theorem loadA_of_readable (h : s.readable a = true) (key n : Nat) :
    ∃ v, memRead s a = .ok v ∧ loadA key n a s = .next ((s.setReg .a v).charge key n) := by
  obtain ⟨v, hv⟩ := memRead_of_readable h
  exact ⟨v, hv, by rw [loadA, hv]; rfl⟩

theorem loadReg_mem_of_readable (h : s.readable (s.cpu.pair .hl) = true) (key n : Nat) (y : Reg) :
    ∃ v, memRead s (s.cpu.pair .hl) = .ok v ∧ loadReg key n y .mem s = .next ((s.setReg y v).charge key n) := by
  obtain ⟨v, hv⟩ := memRead_of_readable h
  exact ⟨v, hv, by rw [loadReg, readSource, hv]; rfl⟩

theorem loadAStepHL_of_read {v : Byte} (h : memRead s (s.cpu.pair .hl) = .ok v) (key : Nat) (step : Word) :
    loadAStepHL key step s = .next (((s.setReg .a v).setPair .hl (s.cpu.pair .hl + step)).charge key 2) := by
  rw [loadAStepHL, h]; rfl

theorem storeByte_of_writable (h : s.writable a = true) (key n : Nat) (v : Byte) :
    ∃ t, memWrite s a v = .ok t ∧ t.cpu = s.cpu ∧ storeByte key n a v s = .next (t.charge key n) := by
  obtain ⟨t, ht, hu⟩ := memWrite_of_writable h v
  exact ⟨t, ht, hu.cpu, by rw [storeByte, ht]; rfl⟩

theorem storeAStepHL_of_write {t : State} (h : memWrite s (s.cpu.pair .hl) s.cpu.a = .ok t) (key : Nat) (step : Word) :
    storeAStepHL key step s = .next ((t.setPair .hl (s.cpu.pair .hl + step)).charge key 2) := by
  rw [storeAStepHL, h]; rfl

/-- The first write does not decide whether the second is answered: `writable_after`. -/
theorem storeSP_of_writable (h : s.writable a = true) (h' : s.writable (a + 1#16) = true) (key : Nat) :
    ∃ u t, memWrite s a (loByte s.cpu.sp) = .ok u ∧ memWrite u (a + 1#16) (hiByte s.cpu.sp) = .ok t ∧
      t.cpu = s.cpu ∧ storeSP key a s = .next (t.charge key 5) := by
  obtain ⟨u, hu, low⟩ := memWrite_of_writable h (loByte s.cpu.sp)
  obtain ⟨t, ht, high⟩ := memWrite_of_writable ((writable_after hu (.inl rfl)).trans h') (hiByte s.cpu.sp)
  have hboth : memWrite16 s a s.cpu.sp = .ok t := by rw [memWrite16, hu]; exact ht
  exact ⟨u, t, hu, ht, high.cpu.trans low.cpu, by rw [storeSP, hboth]; rfl⟩

end Operations

section HighPage

variable (s : State) (o : Byte)

/-- `LDH A,(a8)` and `LD A,(C)`: the high page always answers (R126, R128). -/
theorem loadA_highPage (key n : Nat) : ∃ v, memRead s (0xFF00#16 + o.setWidth 16) = .ok v ∧
    loadA key n (highPage o) s = .next ((s.setReg .a v).charge key n) := by
  rw [← highPage_eq]
  exact loadA_of_readable (readable_highPage s o) key n

/-- `LDH (a8),A` and `LD (C),A`: the high page always answers (R127, R129). -/
theorem storeByte_highPage (key n : Nat) (v : Byte) : ∃ t, memWrite s (0xFF00#16 + o.setWidth 16) v = .ok t ∧
    t.cpu = s.cpu ∧ storeByte key n (highPage o) v s = .next (t.charge key n) := by
  rw [← highPage_eq]
  exact storeByte_of_writable (writable_of_readable (readable_highPage s o)) key n v

end HighPage

section Encodings

/-! The encoding lines of R110 to R113 and R140, their operand fields written out. -/

theorem encode_loadReg (y z : Reg) : encode (Form.loadReg y z) = [0b01#2 ++ y.code ++ z.code] := by
  cases y <;> cases z <;> rfl

theorem encode_loadImm (y : Reg) (d : Byte) : encode (Form.loadImm y d) = [0b00#2 ++ y.code ++ 0b110#3, d] := by
  cases y <;> rfl

theorem encode_loadAtHL (y : Reg) : encode (Form.loadAtHL y) = [0b01#2 ++ y.code ++ 0b110#3] := by
  cases y <;> rfl

theorem encode_storeAtHL (z : Reg) : encode (Form.storeAtHL z) = [0b01_110#5 ++ z.code] := by
  cases z <;> rfl

/-- A 16-bit operand is written low byte first (R94). -/
theorem littleEndian_word (b0 lo hi : Byte) : [b0, loByte (word hi lo), hiByte (word hi lo)] = [b0, lo, hi] := by
  rw [loByte_word, hiByte_word]

theorem encode_loadPair (p : Pair) (lo hi : Byte) :
    encode (Form.loadPair p (word hi lo)) = [0b00#2 ++ p.code ++ 0b0001#4, lo, hi] := by
  cases p <;> exact littleEndian_word _ lo hi

end Encodings

/-- Settles O46: each load is `loadReg`, `loadA` or `loadAStepHL` at its address. -/
theorem memoryLoads : Obligations.MemoryLoads := by
  refine ⟨fun y => ⟨encode_loadAtHL y, fun s h => ?atHL⟩, fun s h => loadA_of_readable h 0x0A 2,
    fun s h => loadA_of_readable h 0x1A 2, fun s h => ?stepHL,
    fun s lo hi => ⟨littleEndian_word 0xFA#8 lo hi, fun h => loadA_of_readable h 0xFA 4⟩,
    fun s o => ⟨rfl, loadA_highPage s o 0xF0 3⟩, fun s => loadA_highPage s s.cpu.c 0xF2 2, rfl, rfl, rfl, rfl, rfl⟩
  case atHL =>
    rw [exec_loadAtHL]
    exact loadReg_mem_of_readable h _ 2 y
  case stepHL =>
    obtain ⟨v, hv⟩ := memRead_of_readable h
    refine ⟨v, hv, loadAStepHL_of_read hv 0x2A 1, ?_⟩
    rw [BitVec.sub_eq_add_neg]
    exact loadAStepHL_of_read hv 0x3A (-1)

/-- Settles O47: each store is `storeByte`, `storeAStepHL` or `storeSP` at its address. -/
theorem memoryStores : Obligations.MemoryStores := by
  refine ⟨fun z => ⟨encode_storeAtHL z, fun s h => ?atHL⟩,
    fun s d => ⟨rfl, fun h => storeByte_of_writable h 0x36 3 d⟩, fun s h => storeByte_of_writable h 0x02 2 s.cpu.a,
    fun s h => storeByte_of_writable h 0x12 2 s.cpu.a, fun s h => ?stepHL,
    fun s lo hi => ⟨littleEndian_word 0xEA#8 lo hi, fun h => storeByte_of_writable h 0xEA 4 s.cpu.a⟩,
    fun s o => ⟨rfl, storeByte_highPage s o 0xE0 3 s.cpu.a⟩, fun s => storeByte_highPage s s.cpu.c 0xE2 2 s.cpu.a,
    fun s lo hi => ⟨littleEndian_word 0x08#8 lo hi, fun h h' => storeSP_of_writable h h' 0x08⟩, rfl, rfl, rfl, rfl, rfl⟩
  case atHL =>
    rw [exec_storeAtHL]
    exact storeByte_of_writable h _ 2 (s.cpu.reg z)
  case stepHL =>
    obtain ⟨t, ht, hu⟩ := memWrite_of_writable h s.cpu.a
    refine ⟨t, ht, hu.cpu, storeAStepHL_of_write ht 0x22 1, ?_⟩
    rw [BitVec.sub_eq_add_neg]
    exact storeAStepHL_of_write ht 0x32 (-1)

/-- Settles O45: no operand is in memory, so the shared operation of each form completes in every state. -/
theorem registerLoads : Obligations.RegisterLoads :=
  ⟨fun y z => ⟨encode_loadReg y z, fun s => exec_loadReg s y z⟩,
    fun y d => ⟨encode_loadImm y d, fun s => exec_loadImm s y d⟩,
    fun p lo hi => ⟨encode_loadPair p lo hi, fun s => exec_loadPair s p (word hi lo)⟩, rfl, fun _ => rfl⟩

end Sys2Proof.Machine

namespace Sys2Proof.Machine

/-! ## 8-bit arithmetic and logic (O50, O51, O52, O53) -/

theorem carryIn_eq_toNat (b : Bool) : carryIn b = b.toNat := by cases b <;> rfl

section CarryChain

/-! The carry chain of R6 in plain arithmetic: its bit `k` is what entered column `k`. -/

variable {a b c : Nat}

/-- Exclusive or of two parities. -/
theorem xor_decide_odd (m n : Nat) : (decide (m % 2 = 1) ^^ decide (n % 2 = 1)) = decide ((m + n) % 2 = 1) := by
  rw [Bool.eq_iff_iff, Bool.xor_iff_ne, ne_eq, decide_eq_decide, decide_eq_true_iff]; omega

/-- A bit of the chain is the parity of the three bits it joins. -/
theorem chain_testBit (a b r k : Nat) :
    (chain a b r).testBit k = decide ((a / 2 ^ k + b / 2 ^ k + r / 2 ^ k) % 2 = 1) := by
  rw [chain, Nat.testBit_xor, Nat.testBit_xor]
  simp only [Nat.testBit_eq_decide_div_mod_eq, xor_decide_odd]

/-- The carry into column `k` of a sum. -/
theorem chain_add_testBit (hc : c ≤ 1) (k : Nat) :
    (chain a b (a + b + c)).testBit k = decide (2 ^ k ≤ a % 2 ^ k + b % 2 ^ k + c) := by
  have hm : 0 < 2 ^ k := Nat.two_pow_pos k
  have hcolumn : (a + b + c) / 2 ^ k = a / 2 ^ k + b / 2 ^ k + (a % 2 ^ k + b % 2 ^ k + c) / 2 ^ k := by
    rw [← Nat.mul_add_div hm, Nat.mul_add]
    congr 1
    have := Nat.div_add_mod a (2 ^ k)
    have := Nat.div_add_mod b (2 ^ k)
    omega
  have hlt : (a % 2 ^ k + b % 2 ^ k + c) / 2 ^ k < 2 := by
    have := Nat.mod_lt a hm
    have := Nat.mod_lt b hm
    rw [Nat.div_lt_iff_lt_mul hm]; omega
  have hparity : ∀ x q : Nat, q < 2 → ((x + (x + q)) % 2 = 1 ↔ 1 ≤ q) := by omega
  rw [chain_testBit, hcolumn, decide_eq_decide, hparity _ _ hlt, Nat.le_div_iff_mul_le hm, Nat.one_mul]

/-- The half-borrow of a difference of bytes. -/
theorem chain_sub_testBit_four (ha : a < 256) (hb : b < 256) (hc : c ≤ 1) :
    (chain a b ((a + 512 - b - c) % 512)).testBit 4 = decide (a % 16 < b % 16 + c) := by
  rw [chain_testBit, decide_eq_decide]; omega

/-- The borrow of a difference of bytes. -/
theorem chain_sub_testBit_eight (ha : a < 256) (hb : b < 256) (hc : c ≤ 1) :
    (chain a b ((a + 512 - b - c) % 512)).testBit 8 = decide (a < b + c) := by
  rw [chain_testBit, decide_eq_decide]; omega

end CarryChain

section ClosedForms

theorem ofNat_byte_eq_iff (m n : Nat) : BitVec.ofNat 8 m = BitVec.ofNat 8 n ↔ m % 256 = n % 256 := by
  rw [← BitVec.toNat_inj, BitVec.toNat_ofNat, BitVec.toNat_ofNat]

theorem ofNat_byte_beq_zero (n : Nat) : (BitVec.ofNat 8 n == 0#8) = decide (n % 256 = 0) := by
  rw [beq_eq_decide, decide_eq_decide]
  exact ofNat_byte_eq_iff n 0

theorem lowNibble_eq_iff {k : Nat} (v : Byte) : v &&& 0x0F#8 = BitVec.ofNat 8 k ↔ v.toNat % 16 = k % 256 := by
  rw [← BitVec.toNat_inj, BitVec.toNat_and, BitVec.toNat_ofNat]
  exact iff_of_eq (congrArg (· = _) (Nat.and_two_pow_sub_one_eq_mod v.toNat 4))

/-- The sum of two bytes and a carry, and its flags (R155). -/
theorem add8_eq (a b : Byte) (cin : Bool) :
    add8 a b cin = (BitVec.ofNat 8 (a.toNat + b.toNat + cin.toNat),
      flagsOf ((a.toNat + b.toNat + cin.toNat) % 256 = 0) False (15 < a.toNat % 16 + b.toNat % 16 + cin.toNat)
        (255 < a.toNat + b.toNat + cin.toNat)) := by
  have hc : (chain a.toNat b.toNat (a.toNat + b.toNat + cin.toNat)).testBit 8 =
      decide (255 < a.toNat + b.toNat + cin.toNat) := by
    rw [chain_add_testBit cin.toNat_le, Nat.mod_eq_of_lt a.isLt, Nat.mod_eq_of_lt b.isLt]; rfl
  simp only [add8, carryIn_eq_toNat, ofNat_byte_beq_zero, chain_add_testBit cin.toNat_le 4, hc]
  rfl

/-- The difference of two bytes and a borrow, and its flags (R155). -/
theorem sub8_eq (a b : Byte) (cin : Bool) :
    sub8 a b cin = (BitVec.ofNat 8 (a.toNat + 512 - b.toNat - cin.toNat),
      flagsOf ((a.toNat + 512 - b.toNat - cin.toNat) % 256 = 0) True (a.toNat % 16 < b.toNat % 16 + cin.toNat)
        (a.toNat < b.toNat + cin.toNat)) := by
  have hmod (d : Nat) : BitVec.ofNat 8 (d % 512) = BitVec.ofNat 8 d := by
    rw [ofNat_byte_eq_iff]; omega
  simp only [sub8, carryIn_eq_toNat, hmod, ofNat_byte_beq_zero, chain_sub_testBit_four a.isLt b.isLt cin.toNat_le,
    chain_sub_testBit_eight a.isLt b.isLt cin.toNat_le]
  rfl

/-- The difference of two bytes: the byte 0 exactly if they are equal (R159, R164). -/
theorem sub8_noBorrow_eq (a b : Byte) :
    sub8 a b false = (BitVec.ofNat 8 (a.toNat + 256 - b.toNat),
      flagsOf (a.toNat = b.toNat) True (a.toNat % 16 < b.toNat % 16) (a.toNat < b.toNat)) := by
  have ha := a.isLt
  have hb := b.isLt
  have hr : BitVec.ofNat 8 (a.toNat + 512 - b.toNat) = BitVec.ofNat 8 (a.toNat + 256 - b.toNat) := by
    rw [ofNat_byte_eq_iff]; omega
  have hz : (a.toNat + 512 - b.toNat) % 256 = 0 ↔ a.toNat = b.toNat := by omega
  simp [sub8_eq, flagsOf, hr, hz]

theorem inc8_eq (v : Byte) (g : Flags) :
    inc8 v g = (BitVec.ofNat 8 (v.toNat + 1), flagsOf (v = 0xFF#8) False (v.toNat % 16 = 15) (g.c = true)) := by
  have hr : v + 1#8 = BitVec.ofNat 8 (v.toNat + 1) := by bv_omega
  have hz : v + 1#8 = 0#8 ↔ v = 0xFF#8 := by bv_omega
  simp only [inc8, flagsOf, beq_eq_decide, hz, ← hr, lowNibble_eq_iff, decide_false, Bool.decide_eq_true]

theorem dec8_eq (v : Byte) (g : Flags) :
    dec8 v g = (BitVec.ofNat 8 (v.toNat + 255), flagsOf (v = 0x01#8) True (v.toNat % 16 = 0) (g.c = true)) := by
  have hr : v - 1#8 = BitVec.ofNat 8 (v.toNat + 255) := by bv_omega
  have hz : v - 1#8 = 0#8 ↔ v = 0x01#8 := by bv_omega
  simp only [dec8, flagsOf, beq_eq_decide, hz, ← hr, lowNibble_eq_iff, decide_true, Bool.decide_eq_true]

/-- The adjustment of `DAA` joins disjoint bits, so it is a sum (R169). -/
theorem daaAdjusted_eq (a : Byte) (n low high : Bool) :
    let bits : Byte := (if low then 0x06#8 else 0#8) ||| (if high then 0x60#8 else 0#8)
    let adj : Nat := (if low then 0x06 else 0) + (if high then 0x60 else 0)
    (if n then a - bits else a + bits) = BitVec.ofNat 8 (if n then a.toNat + 256 - adj else a.toNat + adj) := by
  intro bits adj
  have hbits : bits = BitVec.ofNat 8 adj := by subst bits adj; cases low <;> cases high <;> rfl
  have hadj : adj < 256 := by subst adj; cases low <;> cases high <;> decide
  rw [hbits]
  cases n
  case false => exact BitVec.eq_of_toNat_eq (by simp)
  case true => exact BitVec.eq_of_toNat_eq (by simp; omega)

theorem daa8_eq (a : Byte) (g : Flags) :
    let low : Bool := g.h || (!g.n && decide (0x09 < a.toNat % 16))
    let high : Bool := g.c || (!g.n && decide (0x99 < a.toNat))
    let adj : Nat := (if low then 0x06 else 0) + (if high then 0x60 else 0)
    let r : Byte := BitVec.ofNat 8 (if g.n then a.toNat + 256 - adj else a.toNat + adj)
    daa8 a g = (r, { z := decide (r = 0#8), n := g.n, h := false, c := high }) := by
  intro low high adj r
  have hr : _ = r := daaAdjusted_eq a g.n low high
  rw [← hr]
  rfl

end ClosedForms

section Decimal

variable {m n : Nat}

theorem toNat_bcd (h : m < 100) : (bcd m).toNat = m / 10 * 16 + m % 10 := by
  rw [bcd, BitVec.toNat_ofNat, Nat.mod_eq_of_lt (by omega)]

/-- The adjusted byte and the new carry, given the two decisions of `DAA`. -/
theorem daa8_of_decisions {a : Byte} {g : Flags} {low high : Bool}
    (hlow : (g.h || (!g.n && decide (0x09 < a.toNat % 16))) = low)
    (hhigh : (g.c || (!g.n && decide (0x99 < a.toNat))) = high) :
    let adj : Nat := (if low then 0x06 else 0) + (if high then 0x60 else 0)
    (daa8 a g).1 = BitVec.ofNat 8 (if g.n then a.toNat + 256 - adj else a.toNat + adj) ∧ (daa8 a g).2.c = high := by
  subst hlow hhigh
  rw [daa8_eq]
  exact ⟨rfl, rfl⟩

/-- R157, R169: the low digit is adjusted exactly if the low digits carry, the high digit exactly if the numbers do. -/
theorem daa8_add8_bcd (hm : m < 100) (hn : n < 100) :
    let r := add8 (bcd m) (bcd n) false
    (daa8 r.1 r.2).1 = bcd ((m + n) % 100) ∧ (daa8 r.1 r.2).2.c = decide (100 ≤ m + n) := by
  intro r
  have hA := toNat_bcd hm
  have hB := toNat_bcd hn
  obtain ⟨hr, hN, hH, hC⟩ : r.1.toNat = ((bcd m).toNat + (bcd n).toNat) % 256 ∧ r.2.n = false ∧
      r.2.h = decide (15 < (bcd m).toNat % 16 + (bcd n).toNat % 16) ∧
      r.2.c = decide (255 < (bcd m).toNat + (bcd n).toNat) := by
    simp [r, add8_eq, flagsOf]
  have hlow : (r.2.h || (!r.2.n && decide (0x09 < r.1.toNat % 16))) = decide (10 ≤ m % 10 + n % 10) := by
    simp only [hr, hN, hH, Bool.not_false, Bool.true_and, ← Bool.decide_or, decide_eq_decide]; omega
  have hhigh : (r.2.c || (!r.2.n && decide (0x99 < r.1.toNat))) = decide (100 ≤ m + n) := by
    have hbelow : m + n < 100 → (bcd m).toNat + (bcd n).toNat ≤ 0x99 := by omega
    simp only [hr, hN, hC, Bool.not_false, Bool.true_and, ← Bool.decide_or, decide_eq_decide]; omega
  obtain ⟨hbyte, hcarry⟩ := daa8_of_decisions hlow hhigh
  refine ⟨?_, hcarry⟩
  rw [hbyte, hN, hr]
  refine (ofNat_byte_eq_iff _ _).mpr ?_
  simp only [decide_eq_true_eq, Bool.false_eq_true, if_false]
  split <;> split <;> omega

/-- R159, R169: after a subtraction the two borrows decide. -/
theorem daa8_sub8_bcd (hm : m < 100) (hn : n < 100) :
    let r := sub8 (bcd m) (bcd n) false
    (daa8 r.1 r.2).1 = bcd ((m + 100 - n) % 100) ∧ (daa8 r.1 r.2).2.c = decide (m < n) := by
  intro r
  have hA := toNat_bcd hm
  have hB := toNat_bcd hn
  obtain ⟨hr, hN, hH, hC⟩ : r.1.toNat = ((bcd m).toNat + 256 - (bcd n).toNat) % 256 ∧ r.2.n = true ∧
      r.2.h = decide ((bcd m).toNat % 16 < (bcd n).toNat % 16) ∧ r.2.c = decide ((bcd m).toNat < (bcd n).toNat) := by
    simp [r, sub8_noBorrow_eq, flagsOf]
  have hlow : (r.2.h || (!r.2.n && decide (0x09 < r.1.toNat % 16))) = decide (m % 10 < n % 10) := by
    simp only [hN, hH, Bool.not_true, Bool.false_and, Bool.or_false, decide_eq_decide]; omega
  have hhigh : (r.2.c || (!r.2.n && decide (0x99 < r.1.toNat))) = decide (m < n) := by
    simp only [hN, hC, Bool.not_true, Bool.false_and, Bool.or_false, decide_eq_decide]; omega
  obtain ⟨hbyte, hcarry⟩ := daa8_of_decisions hlow hhigh
  refine ⟨?_, hcarry⟩
  rw [hbyte, hN, hr]
  refine (ofNat_byte_eq_iff _ _).mpr ?_
  simp only [decide_eq_true_eq, if_true]
  split <;> split <;> omega

end Decimal

section Operations

variable {s : State}

theorem readSource_of_readable {src : Source8} (h : src = .mem → s.readable (s.cpu.pair .hl) = true) :
    ∃ b, readSource s src = .ok b := by
  cases src with
  | reg r => exact ⟨_, rfl⟩
  | mem => exact memRead_of_readable (h rfl)
  | imm d => exact ⟨_, rfl⟩

/-- An accumulator operation whose operand and result are known. -/
theorem aluA_of_read {op : AluOp} {src : Source8} {b r : Byte} {g : Flags} (hread : readSource s src = .ok b)
    (h : alu8 op s.cpu.a b s.cpu.flags.c = (r, g)) (key n : Nat) :
    aluA key n op src s = .next (((s.setReg .a r).setFlags g).charge key n) := by
  rw [aluA, hread, onOk_ok, h]; rfl

/-- `DAA` after an accumulator operation with an immediate adjusts that operation's result and flags. -/
theorem daa_after_aluImm (op : AluOp) (d : Byte) :
    let r := alu8 op s.cpu.a d s.cpu.flags.c
    ∃ t u, exec (Form.aluImm op d) s = .next t ∧ exec .daa t = .next u ∧
      u.cpu.a = (daa8 r.1 r.2).1 ∧ u.cpu.flags = (daa8 r.1 r.2).2 := by
  intro r
  let t := ((s.setReg .a r.1).setFlags r.2).charge (opcodeKey (Form.aluImm op d)) 2
  have hflags : t.cpu.flags = r.2 := Cpu.setFlags_flags _ r.2
  have hdaa : daa8 t.cpu.a t.cpu.flags = daa8 r.1 r.2 := by rw [hflags]; rfl
  refine ⟨t, _, (exec_alu s op (.imm d)).trans (aluA_of_read rfl rfl _ 2), rfl, ?_, ?_⟩
  · rw [← hdaa]; rfl
  · rw [← hdaa]; exact Cpu.setFlags_flags _ _

theorem incMem_of_access {v : Byte} {t : State} (hread : memRead s (s.cpu.pair .hl) = .ok v)
    (hwrite : memWrite s (s.cpu.pair .hl) (inc8 v s.cpu.flags).1 = .ok t) (key : Nat) :
    incMem key s = .next ((t.setFlags (inc8 v s.cpu.flags).2).charge key 3) := by
  simp only [incMem, hread, onOk_ok, hwrite]; rfl

theorem decMem_of_access {v : Byte} {t : State} (hread : memRead s (s.cpu.pair .hl) = .ok v)
    (hwrite : memWrite s (s.cpu.pair .hl) (dec8 v s.cpu.flags).1 = .ok t) (key : Nat) :
    decMem key s = .next ((t.setFlags (dec8 v s.cpu.flags).2).charge key 3) := by
  simp only [decMem, hread, onOk_ok, hwrite]; rfl

end Operations

section Encodings

/-! The encoding lines of R97, R98, R165 and R167, their operand fields written out. -/

theorem encode_aluReg (op : AluOp) (z : Reg) : encode (Form.aluReg op z) = [0b10#2 ++ op.code ++ z.code] := by
  cases op <;> cases z <;> rfl

theorem encode_aluAtHL (op : AluOp) : encode (Form.aluAtHL op) = [0b10#2 ++ op.code ++ 0b110#3] := by
  cases op <;> rfl

theorem encode_aluImm (op : AluOp) (d : Byte) : encode (Form.aluImm op d) = [0b11#2 ++ op.code ++ 0b110#3, d] := by
  cases op <;> rfl

theorem encode_incReg (y : Reg) : encode (Form.incReg y) = [0b00#2 ++ y.code ++ 0b100#3] := by
  cases y <;> rfl

theorem encode_decReg (y : Reg) : encode (Form.decReg y) = [0b00#2 ++ y.code ++ 0b101#3] := by
  cases y <;> rfl

end Encodings

/-- Settles O50: the read of each operand form is answered, and each operation is its closed form. -/
theorem accumulatorOperations : Obligations.AccumulatorOperations := by
  refine fun op src => ⟨?encoding, fun s hmem => ?result⟩
  case encoding =>
    cases src with
    | reg z => exact encode_aluReg op z
    | mem => exact encode_aluAtHL op
    | imm d => exact encode_aluImm op d
  case result =>
    obtain ⟨b, hread⟩ := readSource_of_readable hmem
    refine ⟨b, ?operand, ?_⟩
    case operand =>
      cases src with
      | reg z => exact (Except.ok.inj hread).symm
      | mem => exact hread
      | imm d => exact (Except.ok.inj hread).symm
    rw [exec_alu]
    cases op with
    | add => exact aluA_of_read (op := .add) hread (add8_eq s.cpu.a b false) _ _
    | adc => exact aluA_of_read (op := .adc) hread (add8_eq s.cpu.a b s.cpu.flags.c) _ _
    | sub => exact aluA_of_read (op := .sub) hread (sub8_noBorrow_eq s.cpu.a b) _ _
    | sbc => exact aluA_of_read (op := .sbc) hread (sub8_eq s.cpu.a b s.cpu.flags.c) _ _
    | and => exact aluA_of_read hread rfl _ _
    | xor => exact aluA_of_read hread rfl _ _
    | or => exact aluA_of_read hread rfl _ _
    | cp => exact aluA_of_read (op := .cp) hread (congrArg (fun r => (s.cpu.a, r.2)) (sub8_noBorrow_eq s.cpu.a b)) _ _

/-- Settles O51: the byte moves by one in closed form; a byte that can be read at `HL` can be written there. -/
theorem incrementAndDecrement : Obligations.IncrementAndDecrement := by
  unfold Obligations.IncrementAndDecrement
  intro up down
  refine ⟨fun y => ⟨encode_incReg y, encode_decReg y, fun s => ⟨?inc, ?dec⟩⟩, rfl, rfl, fun s h => ?mem⟩
  case inc => rw [exec_incReg, incReg, inc8_eq]; rfl
  case dec => rw [exec_decReg, decReg, dec8_eq]; rfl
  case mem =>
    obtain ⟨v, hv⟩ := memRead_of_readable h
    obtain ⟨t, ht, hT⟩ := memWrite_of_writable (writable_of_readable h) (inc8 v s.cpu.flags).1
    obtain ⟨u, hu, hU⟩ := memWrite_of_writable (writable_of_readable h) (dec8 v s.cpu.flags).1
    have hinc := incMem_of_access hv ht 0x34
    have hdec := decMem_of_access hv hu 0x35
    rw [inc8_eq] at ht hinc
    rw [dec8_eq] at hu hdec
    exact ⟨v, t, u, hv, ht, hT.cpu, hu, hU.cpu, hinc, hdec⟩

/-- Settles O52: `DAA` in closed form; the other three are their meanings, the complement an exclusive or with ones. -/
theorem accumulatorAndFlagAdjustments : Obligations.AccumulatorAndFlagAdjustments := by
  refine ⟨rfl, rfl, rfl, rfl, fun s => ⟨?daa, ?cpl, rfl, rfl⟩⟩
  case daa =>
    show decimalAdjust 0x27 s = _
    rw [decimalAdjust, daa8_eq]; rfl
  case cpl =>
    show complementA 0x2F s = _
    rw [complementA, ← BitVec.xor_allOnes]; rfl

/-- Settles O53: `DAA` acts on the result and flags of the addition or the subtraction. -/
theorem daaGivesDecimalResults : Obligations.DaaGivesDecimalResults := by
  intro m n s hm hn ha
  constructor
  · obtain ⟨t, u, hadd, hdaa, hA, hF⟩ := daa_after_aluImm (s := s) .add (bcd n)
    obtain ⟨hbyte, hcarry⟩ := daa8_add8_bcd hm hn
    rw [ha] at hA hF
    exact ⟨t, u, hadd, hdaa, hA.trans hbyte, (congrArg Flags.c hF).trans hcarry⟩
  · obtain ⟨t, u, hsub, hdaa, hA, hF⟩ := daa_after_aluImm (s := s) .sub (bcd n)
    obtain ⟨hbyte, hcarry⟩ := daa8_sub8_bcd hm hn
    rw [ha] at hA hF
    exact ⟨t, u, hsub, hdaa, hA.trans hbyte, (congrArg Flags.c hF).trans hcarry⟩

end Sys2Proof.Machine

namespace Sys2Proof.Machine

/-! ## 16-bit arithmetic (O54) -/

section ClosedForms

/-- The carry into column `k` of a sum with no carry in. -/
theorem chain_add_noCarry_testBit (a b k : Nat) :
    (chain a b (a + b)).testBit k = decide (2 ^ k ≤ a % 2 ^ k + b % 2 ^ k) :=
  chain_add_testBit (c := 0) (Nat.zero_le 1) k

/-- R190: the carry out of a sum of words is the carry into column 16, where both words fit whole. -/
theorem addHL_eq (a b : Word) (g : Flags) :
    addHL a b g = (BitVec.ofNat 16 (a.toNat + b.toNat),
      flagsOf (g.z = true) False (4095 < a.toNat % 4096 + b.toNat % 4096) (65535 < a.toNat + b.toNat)) := by
  have hc : (chain a.toNat b.toNat (a.toNat + b.toNat)).testBit 16 = decide (65535 < a.toNat + b.toNat) := by
    rw [chain_add_noCarry_testBit, Nat.mod_eq_of_lt a.isLt, Nat.mod_eq_of_lt b.isLt]; rfl
  simp only [addHL, flagsOf, chain_add_noCarry_testBit _ _ 12, hc, Bool.decide_eq_true]
  rfl

/-- The low byte of a signed offset is the byte itself. -/
theorem sext16_toNat_mod (e : Byte) : (sext16 e).toNat % 256 = e.toNat := by
  have := e.isLt
  rw [sext16, BitVec.toNat_signExtend, BitVec.toNat_setWidth]
  split <;> omega

/-- A signed offset added to a word, as R193, R194 and the relative jumps read it. -/
theorem add_sext16_eq (a : Word) (e : Byte) :
    a + sext16 e =
      BitVec.ofInt 16 ((a.toNat : Int) + (if e.toNat < 128 then (e.toNat : Int) else (e.toNat : Int) - 256)) := by
  have htoInt : e.toInt = if e.toNat < 128 then (e.toNat : Int) else (e.toNat : Int) - 256 := by
    rw [BitVec.toInt_eq_toNat_cond]
    split <;> split <;> omega
  rw [← htoInt, BitVec.ofInt_add, BitVec.ofInt_natCast, BitVec.ofNat_toNat, BitVec.setWidth_eq]
  rfl

/-- R193, R194: the two carries come from columns 4 and 8, below the sign extension. -/
theorem addOffset_eq (a : Word) (e : Byte) :
    addOffset a e =
      (BitVec.ofInt 16 ((a.toNat : Int) + (if e.toNat < 128 then (e.toNat : Int) else (e.toNat : Int) - 256)),
        flagsOf False False (15 < a.toNat % 16 + e.toNat % 16) (255 < a.toNat % 256 + e.toNat)) := by
  have hbyte := sext16_toNat_mod e
  have hnibble : (sext16 e).toNat % 16 = e.toNat % 16 := by omega
  have hh : (chain a.toNat (sext16 e).toNat (a.toNat + (sext16 e).toNat)).testBit 4 =
      decide (15 < a.toNat % 16 + e.toNat % 16) := by
    rw [chain_add_noCarry_testBit, ← hnibble]; rfl
  have hc : (chain a.toNat (sext16 e).toNat (a.toNat + (sext16 e).toNat)).testBit 8 =
      decide (255 < a.toNat % 256 + e.toNat) := by
    rw [chain_add_noCarry_testBit, ← hbyte]; rfl
  rw [← add_sext16_eq]
  simp only [addOffset, hh, hc]
  rfl

end ClosedForms

section Encodings

/-! The encoding lines of R190 to R192, their operand fields written out. -/

theorem encode_addHL (p : Pair) : encode (Form.addHL p) = [0b00#2 ++ p.code ++ 0b1001#4] := by
  cases p <;> rfl

theorem encode_incPair (p : Pair) : encode (Form.incPair p) = [0b00#2 ++ p.code ++ 0b0011#4] := by
  cases p <;> rfl

theorem encode_decPair (p : Pair) : encode (Form.decPair p) = [0b00#2 ++ p.code ++ 0b1011#4] := by
  cases p <;> rfl

end Encodings

/-- Settles O54: each form is its shared operation, with the sum and flags in closed form. -/
theorem sixteenBitArithmetic : Obligations.SixteenBitArithmetic := by
  refine ⟨fun p => ⟨encode_addHL p, encode_incPair p, encode_decPair p, fun s => ⟨?add, ?inc, ?dec⟩⟩,
    fun s e => ⟨rfl, rfl, ?addSP, ?loadHL⟩⟩
  case add =>
    rw [exec_addHL, addToHL, addHL_eq]; rfl
  case inc =>
    have hr : s.cpu.pair p + 1#16 = BitVec.ofNat 16 ((s.cpu.pair p).toNat + 1) := by bv_omega
    rw [exec_incPair, incPair, hr]; rfl
  case dec =>
    have hr : s.cpu.pair p - 1#16 = BitVec.ofNat 16 ((s.cpu.pair p).toNat + 65535) := by bv_omega
    rw [exec_decPair, decPair, hr]; rfl
  case addSP =>
    show addToSP 0xE8 e s = _
    rw [addToSP, addOffset_eq]; rfl
  case loadHL =>
    show loadHLFromSP 0xF8 e s = _
    rw [loadHLFromSP, addOffset_eq]; rfl

end Sys2Proof.Machine

namespace Sys2Proof.Machine

/-! ## Rotates, shifts and bits (O55, O56) -/

section ClosedForms

/-- Joining a multiple of `2 ^ k` with bits below `k` is a sum. -/
theorem toNat_or_of_below {x y : Byte} {a b : Nat} (k : Nat) (hx : x.toNat = a) (hy : y.toNat = b) (ha : a % 2 ^ k = 0)
    (hb : b < 2 ^ k) : (x ||| y).toNat = a + b := by
  have hmul : 2 ^ k * (a / 2 ^ k) = a := Nat.mul_div_cancel' (Nat.dvd_of_mod_eq_zero ha)
  rw [BitVec.toNat_or, hx, hy, ← hmul, Nat.two_pow_add_eq_or_of_lt hb]

/-- `toNat_or_of_below` with the low bits first. -/
theorem toNat_or_of_above {x y : Byte} {a b : Nat} (k : Nat) (hx : x.toNat = a) (hy : y.toNat = b) (ha : a < 2 ^ k)
    (hb : b % 2 ^ k = 0) : (x ||| y).toNat = a + b := by
  rw [BitVec.or_comm, toNat_or_of_below k hy hx hb ha, Nat.add_comm]

theorem toNat_shiftLeft_byte (v : Byte) (k : Nat) : (v <<< k).toNat = v.toNat * 2 ^ k % 256 := by
  rw [BitVec.toNat_shiftLeft, Nat.shiftLeft_eq]

theorem toNat_shiftRight_byte (v : Byte) (k : Nat) : (v >>> k).toNat = v.toNat / 2 ^ k := by
  rw [BitVec.toNat_ushiftRight, Nat.shiftRight_eq_div_pow]

theorem toNat_carryByte (cf : Bool) : (if cf then 0x01#8 else 0#8 : Byte).toNat = cf.toNat := by cases cf <;> rfl

/-- The bit that leaves a byte on the left. -/
theorem getLsbD_leftmost (v : Byte) : v.getLsbD 7 = decide (v.toNat / 128 = 1) := by
  have := v.isLt
  rw [← BitVec.testBit_toNat, Nat.testBit_eq_decide_div_mod_eq, decide_eq_decide]; omega

/-- The bit that leaves a byte on the right. -/
theorem getLsbD_rightmost (v : Byte) : v.getLsbD 0 = decide (v.toNat % 2 = 1) := by
  rw [← BitVec.testBit_toNat, Nat.testBit_eq_decide_div_mod_eq, Nat.pow_zero, Nat.div_one]

/-- The top bit of a byte, alone. -/
theorem toNat_and_topBit (v : Byte) : (v &&& 0x80#8).toNat = v.toNat / 128 * 128 := by
  have hmask : v &&& 0x80#8 = if v.getLsbD 7 = true then 0x80#8 else 0#8 := BitVec.and_twoPow v 7
  have := v.isLt
  simp only [hmask, getLsbD_leftmost, decide_eq_true_eq]
  split
  · show 128 = _; omega
  · show 0 = _; omega

/-- R205 to R212: the two parts a rotate joins do not overlap, so their union is their sum. -/
theorem toNat_rotate8 (op : RotOp) (v : Byte) (cf : Bool) :
    (rotate8 op v cf).1.toNat = rotated op v.toNat cf.toNat := by
  have hv := v.isLt
  have hcf := cf.toNat_le
  have hl := toNat_shiftLeft_byte v
  have hr := toNat_shiftRight_byte v
  have hlow := toNat_carryByte cf
  have hhigh : ((if cf then 0x01#8 else 0#8 : Byte) <<< 7).toNat = cf.toNat * 128 := by
    rw [toNat_shiftLeft_byte, hlow]; omega
  cases op with
  | rlc => exact toNat_or_of_below 1 (hl 1) (hr 7) (by omega) (by omega)
  | rrc => exact (toNat_or_of_above 7 (hr 1) (hl 7) (by omega) (by omega)).trans (by rw [rotated]; omega)
  | rl => exact toNat_or_of_below 1 (hl 1) hlow (by omega) (by omega)
  | rr => exact toNat_or_of_above 7 (hr 1) hhigh (by omega) (by omega)
  | sla => exact hl 1
  | sra => exact toNat_or_of_above 7 (hr 1) (toNat_and_topBit v) (by omega) (by omega)
  | swap => exact (toNat_or_of_below 4 (hl 4) (hr 4) (by omega) (by omega)).trans (by rw [rotated]; omega)
  | srl => exact hr 1

theorem rotate8_carry (op : RotOp) (v : Byte) (cf : Bool) :
    (rotate8 op v cf).2 = decide (rotatedOut op v.toNat = 1) := by
  cases op with
  | rlc | rl | sla => exact getLsbD_leftmost v
  | rrc | rr | sra | srl => exact getLsbD_rightmost v
  | swap => rfl

/-- A rotate or shift, result and carry, in plain arithmetic (R205 to R212). -/
theorem rotate8_eq (op : RotOp) (v : Byte) (cf : Bool) :
    rotate8 op v cf = (BitVec.ofNat 8 (rotated op v.toNat cf.toNat), decide (rotatedOut op v.toNat = 1)) := by
  rw [← toNat_rotate8, BitVec.ofNat_toNat, BitVec.setWidth_eq, ← rotate8_carry]

theorem rotated_mod (op : RotOp) (v : Byte) (cf : Bool) :
    rotated op v.toNat cf.toNat % 256 = rotated op v.toNat cf.toNat := by
  rw [← toNat_rotate8]
  exact Nat.mod_eq_of_lt (BitVec.isLt _)

/-- The mask of bit `n`. -/
theorem getLsbD_bitMask (n : BitNo) (k : Nat) : (1#8 <<< n.toNat).getLsbD k = decide (k = n.toNat) := by
  have hn : n.toNat < 8 := by cases n <;> decide
  rw [← BitVec.twoPow_eq, BitVec.getLsbD_twoPow, decide_eq_true hn, Bool.true_and, decide_eq_decide, eq_comm]

/-- R214: `RES` clears bit `n` and keeps the others. -/
theorem getLsbD_clearBit (n : BitNo) (v : Byte) {k : Nat} (hk : k < 8) :
    (clearBit n v).getLsbD k = (v.getLsbD k && decide (k ≠ n.toNat)) := by
  rw [clearBit, BitVec.getLsbD_and, BitVec.getLsbD_not, getLsbD_bitMask, decide_eq_true hk, Bool.true_and, decide_not]

/-- R215: `SET` sets bit `n` and keeps the others. -/
theorem getLsbD_setBit (n : BitNo) (v : Byte) (k : Nat) :
    (setBit n v).getLsbD k = (v.getLsbD k || decide (k = n.toNat)) := by
  rw [setBit, BitVec.getLsbD_or, getLsbD_bitMask]

end ClosedForms

/-- An accumulator rotate in closed form (R200 to R203). -/
theorem rotateA_eq (s : State) (key : Nat) (op : RotOp) :
    rotateA key op s =
      .next (((s.setReg .a (BitVec.ofNat 8 (rotated op s.cpu.a.toNat s.cpu.flags.c.toNat))).setFlags
        (flagsOf False False False (rotatedOut op s.cpu.a.toNat = 1))).charge key 1) := by
  rw [rotateA, rotate8_eq]; rfl

section Operations

variable {s t : State} {o : Operand8} {v : Byte}

theorem readOperand_of_readable (h : o = .mem → s.readable (s.cpu.pair .hl) = true) : ∃ v, readOperand s o = .ok v := by
  cases o with
  | reg z => exact ⟨_, rfl⟩
  | mem => exact memRead_of_readable (h rfl)

/-! The operations of the secondary page once the accesses to the operand are answered. -/

theorem rotate_of_access {op : RotOp} (hread : readOperand s o = .ok v)
    (hwrite : writeOperand s o (BitVec.ofNat 8 (rotated op v.toNat s.cpu.flags.c.toNat)) = .ok t) (key : Nat) :
    rotate key op o s =
      .next ((t.setFlags (flagsOf (rotated op v.toNat s.cpu.flags.c.toNat = 0) False False
        (rotatedOut op v.toNat = 1))).charge key (modifyCost o)) := by
  simp only [rotate, hread, onOk_ok, rotate8_eq, hwrite, ofNat_byte_beq_zero, rotated_mod]
  rfl

theorem bitBit_of_read (hread : readOperand s o = .ok v) (key : Nat) (n : BitNo) :
    bitBit key n o s =
      .next ((s.setFlags (flagsOf (v.getLsbD n.toNat = false) False True (s.cpu.flags.c = true))).charge key
        (testCost o)) := by
  simp only [bitBit, hread, onOk_ok, flagsOf, Bool.decide_eq_false, Bool.decide_eq_true, decide_false, decide_true]
  rfl

theorem resBit_of_access {n : BitNo} (hread : readOperand s o = .ok v) (hwrite : writeOperand s o (clearBit n v) = .ok t)
    (key : Nat) : resBit key n o s = .next (t.charge key (modifyCost o)) := by
  rw [resBit, hread, onOk_ok, hwrite]; rfl

theorem setBitOn_of_access {n : BitNo} (hread : readOperand s o = .ok v) (hwrite : writeOperand s o (setBit n v) = .ok t)
    (key : Nat) : setBitOn key n o s = .next (t.charge key (modifyCost o)) := by
  rw [setBitOn, hread, onOk_ok, hwrite]; rfl

end Operations

section Encodings

/-! The encoding lines of R99 (the secondary page), their operand fields written out. -/

theorem encode_rotate (op : RotOp) (o : Operand8) :
    encode (Form.rotate op o) = [0xCB#8, 0b00#2 ++ op.code ++ o.code] := by
  cases o with
  | reg z => cases op <;> cases z <;> rfl
  | mem => cases op <;> rfl

theorem encode_bit (n : BitNo) (o : Operand8) : encode (Form.bit n o) = [0xCB#8, 0b01#2 ++ n.code ++ o.code] := by
  cases o with
  | reg z => cases n <;> cases z <;> rfl
  | mem => cases n <;> rfl

theorem encode_res (n : BitNo) (o : Operand8) : encode (Form.res n o) = [0xCB#8, 0b10#2 ++ n.code ++ o.code] := by
  cases o with
  | reg z => cases n <;> cases z <;> rfl
  | mem => cases n <;> rfl

theorem encode_set (n : BitNo) (o : Operand8) : encode (Form.set n o) = [0xCB#8, 0b11#2 ++ n.code ++ o.code] := by
  cases o with
  | reg z => cases n <;> cases z <;> rfl
  | mem => cases n <;> rfl

end Encodings

/-- Settles O55: the four are one operation, in closed form. -/
theorem accumulatorRotates : Obligations.AccumulatorRotates :=
  ⟨rfl, rfl, rfl, rfl, fun s =>
    ⟨rotateA_eq s 0x07 .rlc, rotateA_eq s 0x0F .rrc, rotateA_eq s 0x17 .rl, rotateA_eq s 0x1F .rr⟩⟩

/-- Settles O56: a byte that can be read at `HL` can be written there, so every operand is read and written back. -/
theorem secondaryPage : Obligations.SecondaryPage := by
  intro o s hmem
  obtain ⟨v, hread⟩ := readOperand_of_readable hmem
  refine ⟨v, ?operand, ?_⟩
  case operand =>
    cases o with
    | reg z => exact (Except.ok.inj hread).symm
    | mem => exact hread
  intro cost written
  have hcost : modifyCost o = cost := by cases o <;> rfl
  have hwritten (r : Byte) : ∃ t, writeOperand s o r = .ok t ∧ written r t := by
    cases o with
    | reg z => exact ⟨_, rfl, rfl⟩
    | mem =>
      obtain ⟨t, ht, hu⟩ := memWrite_of_writable (writable_of_readable (hmem rfl)) r
      exact ⟨t, ht, ht, hu.cpu⟩
  refine ⟨fun op => ⟨encode_rotate op o, ?rotate⟩,
    fun n => ⟨encode_bit n o, encode_res n o, encode_set n o, ?bit, ?res, ?set⟩⟩
  case rotate =>
    obtain ⟨t, ht, hw⟩ := hwritten (BitVec.ofNat 8 (rotated op v.toNat s.cpu.flags.c.toNat))
    rw [exec_rotate, ← hcost]
    exact ⟨t, hw, rotate_of_access hread ht _⟩
  case bit =>
    rw [exec_bit, bitBit_of_read hread]
    cases o <;> rfl
  case res =>
    obtain ⟨t, ht, hw⟩ := hwritten (clearBit n v)
    rw [exec_res, ← hcost]
    exact ⟨_, t, fun k hk => getLsbD_clearBit n v hk, hw, resBit_of_access hread ht _⟩
  case set =>
    obtain ⟨t, ht, hw⟩ := hwritten (setBit n v)
    rw [exec_set, ← hcost]
    exact ⟨_, t, fun k _ => getLsbD_setBit n v k, hw, setBitOn_of_access hread ht _⟩

end Sys2Proof.Machine

namespace Sys2Proof.Machine

/-! ## Control transfer (O57, O58) -/

section Encodings

/-! The encoding lines of R226, R229, R231, R233 and R236, their condition and target fields written out. -/

theorem encode_jumpIf (cc : Cond) (lo hi : Byte) :
    encode (Form.jumpIf cc (word hi lo)) = [0b110#3 ++ cc.code ++ 0b010#3, lo, hi] := by
  cases cc <;> exact littleEndian_word _ lo hi

theorem encode_callIf (cc : Cond) (lo hi : Byte) :
    encode (Form.callIf cc (word hi lo)) = [0b110#3 ++ cc.code ++ 0b100#3, lo, hi] := by
  cases cc <;> exact littleEndian_word _ lo hi

theorem encode_jumpRelativeIf (cc : Cond) (e : Byte) :
    encode (Form.jumpRelativeIf cc e) = [0b001#3 ++ cc.code ++ 0b000#3, e] := by
  cases cc <;> rfl

theorem encode_retIf (cc : Cond) : encode (Form.retIf cc) = [0b110#3 ++ cc.code ++ 0b000#3] := by
  cases cc <;> rfl

theorem encode_restart (y : BitNo) : encode (Form.restart y) = [0b11#2 ++ y.code ++ 0b111#3] := by
  cases y <;> rfl

end Encodings

section StackTransfers

variable {s t : State} {v : Word}

/-- A call whose push is answered (R230). -/
theorem callTo_of_push (hcpu : t.cpu = s.cpu) (hpush : push16 s s.cpu.pc = .ok (t.setSp (s.cpu.sp - 2#16))) (a : Word) :
    callTo a s = .ok { t with cpu := { s.cpu with sp := s.cpu.sp - 2#16, pc := a } } := by
  rw [callTo, hpush, ← hcpu]; rfl

/-- A return whose pop is answered (R232). -/
theorem returnTo_of_pop (hpop : pop16 s = .ok (v, s.setSp (s.cpu.sp + 2#16))) :
    returnTo s = .ok { s with cpu := { s.cpu with sp := s.cpu.sp + 2#16, pc := v } } := by
  rw [returnTo, hpop]; rfl

/-- A return from an interrupt whose pop is answered (R234). -/
theorem reti_of_pop (hpop : pop16 s = .ok (v, s.setSp (s.cpu.sp + 2#16))) :
    exec .reti s =
      .next (State.charge { s with cpu := { s.cpu with sp := s.cpu.sp + 2#16, pc := v, ime := true } } 0xD9 4) := by
  show reti 0xD9 s = _
  rw [reti, returnFromInterrupt, hpop]; rfl

end StackTransfers

/-- Settles O57: the conditional forms split on their condition; a relative target is the signed sum. -/
theorem jumps : Obligations.Jumps := by
  refine ⟨fun s lo hi => ⟨littleEndian_word _ lo hi, rfl⟩,
    fun s cc lo hi => ⟨encode_jumpIf cc lo hi, fun h => ?taken, fun h => ?notTaken⟩, ⟨rfl, fun _ => rfl⟩, fun s e => ?_⟩
  case taken => rw [exec_jumpIf, jumpIf, if_pos h]
  case notTaken => rw [exec_jumpIf, jumpIf, if_neg (ne_true_of_eq_false h)]; rfl
  intro target
  have htarget : relativeTarget s e = target := add_sext16_eq s.cpu.pc e
  refine ⟨rfl, ?jr, fun cc => ⟨encode_jumpRelativeIf cc e, fun h => ?taken, fun h => ?notTaken⟩⟩
  case jr => rw [← htarget]; rfl
  case taken => rw [exec_jumpRelativeIf, jumpRelativeIf, if_pos h, htarget]
  case notTaken => rw [exec_jumpRelativeIf, jumpRelativeIf, if_neg (ne_true_of_eq_false h)]; rfl

/-- Settles O58: every call is `callTo` after one push, every return `returnTo` or `reti` after one pop. -/
theorem callsReturnsAndRestarts : Obligations.CallsReturnsAndRestarts := by
  intro s called returned
  refine ⟨fun h => ?calls, fun h => ?returns, fun cc a h => ⟨?callNotTaken, ?retNotTaken⟩⟩
  case calls =>
    obtain ⟨t, hpushed, hcpu, hpush⟩ := push16_of_canPush h s.cpu.pc
    have hcall (a : Word) : callTo a s = .ok (called t a) := callTo_of_push hcpu hpush a
    refine ⟨t, hpushed, fun lo hi => ⟨littleEndian_word _ lo hi, ?call⟩,
      fun cc lo hi => ⟨encode_callIf cc lo hi, fun hcc => ?callTaken⟩, fun y => ⟨encode_restart y, ?restart⟩⟩
    case call => show call 0xCD _ s = _; rw [call, hcall]; rfl
    case callTaken => rw [exec_callIf, callIf, if_pos hcc, hcall]; rfl
    case restart => rw [exec_restart, restart, hcall]; rfl
  case returns =>
    obtain ⟨v, hpopped, hpop⟩ := pop16_of_canPop h
    have hret : returnTo s = .ok (returned v s.cpu.ime) := returnTo_of_pop hpop
    refine ⟨v, hpopped, rfl, ?ret, rfl, reti_of_pop hpop, fun cc => ⟨encode_retIf cc, fun hcc => ?retTaken⟩⟩
    case ret => show ret 0xC9 s = _; rw [ret, hret]; rfl
    case retTaken => rw [exec_retIf, retIf, if_pos hcc, hret]; rfl
  case callNotTaken => rw [exec_callIf, callIf, if_neg (ne_true_of_eq_false h)]; rfl
  case retNotTaken => rw [exec_retIf, retIf, if_neg (ne_true_of_eq_false h)]; rfl

end Sys2Proof.Machine

namespace Sys2Proof.Machine

/-! ## Taking an interrupt and returning from it (O36) -/

/-- R273 finds a source to serve exactly if some enabled request is pending (R272). -/
theorem firstSource_pend_eq_none_iff (q : Irq) : firstSource q.pend = none ↔ q.pend = 0#8 := by
  constructor
  · intro h
    obtain ⟨h0, h1, h2, h3, h4⟩ : q.pend.getLsbD 0 = false ∧ q.pend.getLsbD 1 = false ∧ q.pend.getLsbD 2 = false ∧
        q.pend.getLsbD 3 = false ∧ q.pend.getLsbD 4 = false := by
      simpa [firstSource, ite_eq_iff] using h
    refine BitVec.eq_of_getLsbD_eq fun k hk => ?_
    by_cases hlow : k < 5
    · interval_cases k <;> assumption
    · have hmask : (0x1F#8).getLsbD k = false := by interval_cases k <;> rfl
      rw [Irq.pend, BitVec.getLsbD_and, hmask, Bool.and_false, BitVec.getLsbD_zero]
  · intro h
    rw [h]; rfl

/-- R272: an enabled pending request leaves the machine running. -/
theorem wake_of_pending {s : State} (h : s.irq.pend ≠ 0#8) : s.wake = s.setMode .running := by
  unfold State.wake
  cases hm : s.cpu.mode with
  | halted => exact if_pos ⟨rfl, h⟩
  | running => rw [if_neg (by simp), State.setMode, ← hm]; rfl

/-- `memWrite_withCpu` where the CPU registers alone differ: a write changes neither the cost nor the cycles. -/
theorem memWrite_withOnlyCpu {s t : State} {a : Word} {v : Byte} (h : memWrite s a v = .ok t) (p : Cpu) :
    memWrite { s with cpu := p } a v = .ok { t with cpu := p } := by
  have hu := memWrite_untouched h
  exact (memWrite_withCpu h p s.cost s.cycles).trans (by rw [← hu.cost, ← hu.cycles])

/-- A push does not see the CPU registers but `SP`. -/
theorem Pushed.withCpu {s t : State} {v : Word} (h : Pushed s v t) {p : Cpu} (hp : p.sp = s.cpu.sp) :
    Pushed { s with cpu := p } v { t with cpu := p } := by
  obtain ⟨u, hu, ht⟩ := h
  refine ⟨{ u with cpu := p }, ?_, ?_⟩
  · show memWrite _ (p.sp - 1#16) _ = _
    rw [hp]; exact memWrite_withOnlyCpu hu p
  · show memWrite _ (p.sp - 2#16) _ = _
    rw [hp]; exact memWrite_withOnlyCpu ht p

theorem push16_of_pushed {s t : State} {v : Word} (h : Pushed s v t) : push16 s v = .ok (t.setSp (s.cpu.sp - 2#16)) := by
  obtain ⟨u, hu, ht⟩ := h
  rw [push16_eq, hu]; simp only [ht]

/-- The CPU after source `i` is dispatched (R273). -/
def Cpu.dispatched (p : Cpu) (i : Source) : Cpu :=
  { p with ime := false, mode := .running, sp := p.sp - 2#16, serviced := true, pc := i.vector }

/-- The interrupt half with a request to serve and the push answered (R273). -/
theorem interruptHalf_of_canPush {s : State} {i : Source} (hime : s.cpu.ime = true) (hi : firstSource s.irq.pend = some i)
    (h : s.canPush = true) :
    ∃ t, Pushed s s.cpu.pc t ∧ interruptHalf s = .next { t with irq := t.irq.clear i, cpu := s.cpu.dispatched i } := by
  obtain ⟨t, hpushed, -, -⟩ := push16_of_canPush h s.cpu.pc
  have hpend : s.irq.pend ≠ 0#8 := fun h0 => by rw [(firstSource_pend_eq_none_iff _).2 h0] at hi; cases hi
  have hpush := push16_of_pushed (hpushed.withCpu (p := { s.cpu with mode := .running, ime := false }) rfl)
  refine ⟨t, hpushed, ?_⟩
  rw [interruptHalf, if_pos hime, hi, wake_of_pending hpend]
  exact congrArg (onOk · _) hpush

/-- A word on a stack in plain storage stays there when the interrupt registers change. -/
theorem Popped.withIrq {s : State} {v : Word} (h : Popped s v) (hlo : plainStorage s.cpu.sp = true)
    (hhi : plainStorage (s.cpu.sp + 1#16) = true) (q : Irq) : Popped { s with irq := q } v := by
  obtain ⟨lo, hi, hl, hh, rfl⟩ := h
  rw [memRead_plain _ hlo] at hl
  rw [memRead_plain _ hhi] at hh
  exact ⟨lo, hi, (memRead_plain _ hlo).trans hl, (memRead_plain _ hhi).trans hh, rfl⟩

/-- Settles O36: the dispatch pushes `PC` where nothing overwrites it, and `RETI` pops it. -/
theorem retiResumesTheInterruptedCode : Obligations.RetiResumesTheInterruptedCode := by
  intro s hime hpend hplain
  obtain ⟨i, hi⟩ := Option.ne_none_iff_exists'.1 (mt (firstSource_pend_eq_none_iff s.irq).1 hpend)
  obtain ⟨t, hpushed, htaken⟩ := interruptHalf_of_canPush hime hi (canPush_of_plainStack hplain)
  obtain ⟨hhi, hlo, -⟩ := plainStack_spec hplain
  have hnext : s.cpu.sp - 2#16 + 1#16 = s.cpu.sp - 1#16 := by bv_omega
  have hsp : s.cpu.sp - 2#16 + 2#16 = s.cpu.sp := by bv_omega
  have hpopped := (popped_of_pushed hplain hpushed (s.cpu.dispatched i) t.cost rfl).withIrq hlo (hnext ▸ hhi) (t.irq.clear i)
  obtain ⟨v, hv, hpop⟩ := pop16_of_canPop hpopped.canPop
  refine ⟨_, _, htaken, reti_of_pop hpop, ?_⟩
  rw [hv.unique hpopped]
  show { s.cpu with mode := .running, sp := s.cpu.sp - 2#16 + 2#16, serviced := true, ime := true } = _
  rw [hsp, ← hime]

end Sys2Proof.Machine

namespace Sys2Proof.Machine

/-! ## System instructions (O7, O59) -/

section InterruptHalf

variable {s : State}

theorem wake_cpu (s : State) : s.wake.cpu = { s.cpu with mode := s.wake.cpu.mode } := by
  unfold State.wake
  split <;> rfl

theorem wake_irq (s : State) : s.wake.irq = s.irq := by
  unfold State.wake
  split <;> rfl

/-- A halted machine wakes exactly if some enabled request is pending (R272). -/
theorem wake_mode_eq_halted_iff (h : s.cpu.mode = .halted) : s.wake.cpu.mode = .halted ↔ s.irq.pend = 0#8 := by
  by_cases hpend : s.irq.pend = 0#8
  · have hstays : s.wake = s := if_neg fun hwakes => hwakes.2 hpend
    simp [hstays, h, hpend]
  · simp [wake_of_pending hpend, hpend]

/-- With `IME` off the interrupt half only wakes (R272). -/
theorem interruptHalf_of_masked (h : s.cpu.ime = false) : interruptHalf s = .next s.wake := by
  rw [interruptHalf, h]; rfl

end InterruptHalf

section HaltedStep

variable {s u w t : State}

/-- The DMA sequencer writes its own registers and RAM, nothing else (R287, R288). -/
theorem dmaTick_frame {c : Nat} (e : dmaTick s c = .ok t) : t = { s with dma := t.dma, ram := t.ram } := by
  rcases dmaTick_cases s c with ⟨-, h⟩ | ⟨m, h, -⟩ | ⟨-, -, h⟩ <;> rw [h] at e
  · cases e; rfl
  · cases e; rfl
  · split at e
    next v hcopy => cases e; rw [dmaCopy_frame hcopy]
    next => cases e

/-- The devices advance without touching the CPU (R261 (e)). -/
theorem StepParts.cpu_dma (h : StepParts s u w t) : w.cpu = u.cpu :=
  (congrArg State.cpu (dmaTick_frame h.dma)).trans (State.timerTick_cpu _ _)

/-- With `IME` off nothing after the instruction writes a CPU register but the run mode, and that only to wake (R272). -/
theorem StepParts.of_masked (h : StepParts s u w t) (hime : u.cpu.ime = false) :
    t.cpu = { u.cpu with mode := t.cpu.mode } ∧
      (u.cpu.mode = .halted → (t.cpu.mode = .halted ↔ t.irq.pend = 0#8)) := by
  have hrest := h.rest
  have hcpu : (w.ppuTick (w.params.tickScale * stepCycles s u)).cpu = u.cpu := by
    rw [State.ppuTick_cpu, h.cpu_dma]
  rw [interruptHalf_of_masked (by rw [hcpu, hime])] at hrest
  cases hrest
  rw [← hcpu, wake_irq]
  exact ⟨wake_cpu _, wake_mode_eq_halted_iff⟩

/-- `HALT` on a halted machine changes the cost only (R246). -/
theorem exec_halt_of_halted (h : s.cpu.mode = .halted) : exec .halt s = .next (s.charge 0x76 1) := by
  show Host.Outcome.next ((s.setMode .halted).charge 0x76 1) = _
  rw [← h]; rfl

/-- A halted machine executes the synthetic `HALT` (R261). -/
theorem runInstr_of_halted (h : s.cpu.mode = .halted) : runInstr s = .next (s.charge 0x76 1) := by
  rw [← exec_halt_of_halted h, runInstr, h]

/-- The parts of a halted step: its instruction part is the synthetic `HALT` (R246, R261). -/
theorem step_parts_of_halted (hmode : s.cpu.mode = .halted) (e : step s = .next t) :
    ∃ w, StepParts s ((beginStep s).charge 0x76 1) w t := by
  have hmode' : (beginStep s).cpu.mode = .halted := hmode
  obtain ⟨u, hu, e⟩ := thenDo_next_iff.1 e
  cases hu.symm.trans (runInstr_of_halted hmode')
  obtain ⟨x, hx, e⟩ := onOk_next_iff.1 e
  unfold advanceDevices at hx
  split at hx
  next w hw => cases hx; exact ⟨w, ⟨.halt, s.cpu.pc, exec_halt_of_halted hmode'⟩, hw, e⟩
  next => cases hx

end HaltedStep

/-- Settles O7: a halted step with `IME` off is the synthetic `HALT`, the devices' ticks and the wake. -/
theorem haltWaitsAndStopIsANoOp : Obligations.HaltWaitsAndStopIsANoOp := by
  refine ⟨fun _ => rfl, fun s t hmode hime hcost e => ?_, fun _ => rfl⟩
  obtain ⟨w, h⟩ := step_parts_of_halted hmode e
  obtain ⟨hcpu, hwoken⟩ := h.of_masked hime
  refine ⟨hcpu, ?_, hwoken hmode⟩
  have hcost' : (beginStep s).params.cost = [] := hcost
  rw [h.cycles, stepCycles, State.charge_cost, baseCost_plain hcost']
  rfl

section SecondaryPage

variable {s : State}

/-- Every entry of the secondary page is executed as its fields say (R99, R204). -/
theorem secondaryRows_exec : secondaryRows.map (List.map exec) = byteRows secondary := rfl

/-- After the prefix the second byte selects the instruction that `secondary` executes (R250). -/
theorem decode_prefixed (op2 : Byte) : ∃ i, decode [0xCB#8, op2] = .ok (i, []) ∧ exec i = secondary op2 := by
  refine ⟨_, decode_of_length_two rfl, ?_⟩
  rw [decode3_eq_rowDecode, rowDecode, if_pos rfl]
  exact map_rowEntry secondaryRows_exec op2 .nop

theorem writeOperand_of_readable {o : Operand8} (h : o = .mem → s.readable (s.cpu.pair .hl) = true) (v : Byte) :
    ∃ t, writeOperand s o v = .ok t := by
  cases o with
  | reg z => exact ⟨_, rfl⟩
  | mem =>
    obtain ⟨t, ht, -⟩ := memWrite_of_writable (writable_of_readable (h rfl)) v
    exact ⟨t, ht⟩

/-- A secondary-page instruction completes when the byte at `HL` can be read. -/
theorem secondary_completes (h : s.readable (s.cpu.pair .hl) = true) (op2 : Byte) : ∃ t, secondary op2 s = .next t := by
  obtain ⟨v, hread⟩ := readOperand_of_readable (o := operandAt (op2.toNat % 8)) fun _ => h
  have hwrite := writeOperand_of_readable (o := operandAt (op2.toNat % 8)) fun _ => h
  unfold secondary
  split
  · obtain ⟨t, ht⟩ := hwrite _
    exact ⟨_, rotate_of_access hread ht _⟩
  · exact ⟨_, bitBit_of_read hread _ _⟩
  · obtain ⟨t, ht⟩ := hwrite _
    exact ⟨_, resBit_of_access hread ht _⟩
  · obtain ⟨t, ht⟩ := hwrite _
    exact ⟨_, setBitOn_of_access hread ht _⟩

end SecondaryPage

/-- Each undefined opcode is its own one-byte encoding, and a no-op (R100, R251). -/
theorem exec_undefinedOpcode (s : State) {e : Nat × Instr} (h : e ∈ Form.undefinedOpcodes) :
    encode e.2 = [BitVec.ofNat 8 e.1] ∧ exec e.2 s = .next (s.charge e.1 1) := by
  simp only [Form.undefinedOpcodes, List.mem_cons, List.not_mem_nil, or_false] at h
  rcases h with rfl | rfl | rfl | rfl | rfl | rfl | rfl | rfl | rfl | rfl | rfl <;> exact ⟨rfl, rfl⟩

/-- Settles O59: each instruction is its meaning; the prefix is the secondary page's table entry. -/
theorem systemInstructions : Obligations.SystemInstructions := by
  intro s
  refine ⟨⟨rfl, rfl⟩, ⟨rfl, rfl⟩, ⟨rfl, rfl⟩, ⟨rfl, fun _ => exec_undefinedOpcode s⟩, fun op2 => ?_⟩
  obtain ⟨i, hdecode, hexec⟩ := decode_prefixed op2
  exact ⟨i, hdecode, (congrFun hexec s).symm, fun h => secondary_completes h op2⟩

end Sys2Proof.Machine

namespace Sys2Proof.Machine

/-! ## The timer (O30) -/

namespace Timer

variable (t : Timer) (n : Nat)

/-- The threshold that `TAC[1:0]` selects (R280). -/
theorem threshold_eq :
    t.threshold = if t.tac.toNat % 4 = 0 then 1024 else if t.tac.toNat % 4 = 1 then 16
      else if t.tac.toNat % 4 = 2 then 64 else 256 := by
  unfold threshold
  split <;> simp_all

theorem threshold_lt : t.threshold < 2 ^ 14 := by
  unfold threshold
  split <;> norm_num

/-- The divider after `n` ticks, before any reduction (R281). -/
def advanced : Nat := (t.divider.toNat + n) % 2 ^ 14

theorem advanced_eq_toNat : t.advanced n = (t.divider + BitVec.ofNat 14 n).toNat := by
  simp [advanced]

theorem ofNat_advanced : BitVec.ofNat 14 (t.advanced n) = t.divider + BitVec.ofNat 14 n := by
  rw [advanced_eq_toNat, BitVec.ofNat_toNat, BitVec.setWidth_eq]

variable {t n}

/-- Disabled or below the threshold, only the divider grows (R281). -/
theorem tick_of_below (h : t.enabled = false ∨ t.advanced n < t.threshold) :
    t.tick n = ({ t with divider := BitVec.ofNat 14 (t.advanced n) }, false) := by
  have hcond : ¬ (t.enabled && decide (t.threshold ≤ (t.divider + BitVec.ofNat 14 n).toNat)) = true := by
    rw [← advanced_eq_toNat]
    rcases h with h | h <;> simp [h]
  rw [tick, if_neg hcond, ofNat_advanced]

/-- Enabled and at the threshold, the divider is reduced once and `TIMA` counts once (R281). -/
theorem tick_of_reached (he : t.enabled = true) (h : t.threshold ≤ t.advanced n) :
    t.tick n = increment { t with divider := BitVec.ofNat 14 (t.advanced n - t.threshold) } := by
  have hcond : (t.enabled && decide (t.threshold ≤ (t.divider + BitVec.ofNat 14 n).toNat)) = true := by
    rw [← advanced_eq_toNat]
    simp [he, h]
  rw [tick, if_pos hcond, ← ofNat_advanced, BitVec.ofNat_sub_ofNat_of_le _ _ t.threshold_lt h]

/-- From 0xFF the counter reloads and requests (R282). -/
theorem increment_of_full (h : t.tima = 0xFF#8) : t.increment = ({ t with tima := t.tma }, true) := if_pos h

/-- Below 0xFF the counter counts (R282). -/
theorem increment_of_ne_full (h : t.tima ≠ 0xFF#8) : t.increment = ({ t with tima := t.tima + 1#8 }, false) := if_neg h

end Timer

/-- The machine's tick is the timer's, and its request (R281, R282). -/
theorem timerTick_of_tick {s : State} {n : Nat} {t : Timer} {b : Bool} (h : s.timer.tick n = (t, b)) :
    s.timerTick n = State.requestIf { s with timer := t } .timer b := by
  rw [State.timerTick, h]

/-- Settles O30: below the threshold, at it, and at it with a full counter. -/
theorem timerTickCountsOnceAtTheThreshold : Obligations.TimerTickCountsOnceAtTheThreshold := by
  intro s n d thresh
  have hthresh : thresh = s.timer.threshold := s.timer.threshold_eq.symm
  rw [hthresh]
  refine ⟨fun h => ?_, fun he hd htima => ?_, fun he hd htima => ?_⟩
  · exact timerTick_of_tick (Timer.tick_of_below h)
  · exact timerTick_of_tick ((Timer.tick_of_reached he hd).trans (Timer.increment_of_ne_full htima))
  · exact timerTick_of_tick ((Timer.tick_of_reached he hd).trans (Timer.increment_of_full htima))

/-! ## The registers of the devices (O29) -/

/-- The registers of the map are in the I/O region (R43, R51). -/
theorem ioRegAt_range {a : Word} {r : IoReg} (h : ioRegAt a = some r) : 0xFF00 ≤ a.toNat ∧ a.toNat < 0xFF80 := by
  have hmap : ∀ e ∈ ioMap, 0xFF00 ≤ e.1 ∧ e.1 < 0xFF80 := by decide
  obtain ⟨l, l', hl, -⟩ := List.lookup_eq_some_iff.1 h
  exact hmap (a.toNat, r) (by rw [hl]; simp)

/-- A bus access of a mapped address is the register's own read or write (R51). -/
theorem register_access (s : State) (v : Byte) {a : Word} {r : IoReg} (h : ioRegAt a = some r) :
    memRead s a = .ok (s.readIo r) ∧ memWrite s a v = .ok (s.writeIo r v) :=
  have ⟨hlo, hhi⟩ := ioRegAt_range h
  ⟨memRead_io_mapped s hlo hhi h, memWrite_io_mapped s v hlo hhi h⟩

theorem word_zero_eq_ofNat (v : Byte) : word v 0#8 = BitVec.ofNat 16 (v.toNat * 256) := by
  apply BitVec.eq_of_toNat_eq
  have := v.isLt
  rw [word_toNat, BitVec.toNat_ofNat, BitVec.toNat_ofNat]
  omega

/-- `DIV` is eight bits of the divider from `DIV_SHIFT` (R283). -/
theorem Timer.div_eq (t : Timer) (shift : Nat) :
    t.div shift = BitVec.ofNat 8 (t.divider.toNat / 2 ^ shift % 256) := by
  apply BitVec.eq_of_toNat_eq
  simp [Timer.div, Nat.shiftRight_eq_div_pow]

/-- Settles O29: each register at its address of the map, `IE` at its own. -/
theorem deviceRegistersReadAndWrite : Obligations.DeviceRegistersReadAndWrite := by
  intro s v
  obtain ⟨hifr, hifr'⟩ := register_access s v (a := 0xFF0F#16) (r := .ifr) rfl
  obtain ⟨hdiv, hdiv'⟩ := register_access s v (a := 0xFF04#16) (r := .div) rfl
  obtain ⟨htima, htima'⟩ := register_access s v (a := 0xFF05#16) (r := .tima) rfl
  obtain ⟨htma, htma'⟩ := register_access s v (a := 0xFF06#16) (r := .tma) rfl
  obtain ⟨htac, htac'⟩ := register_access s v (a := 0xFF07#16) (r := .tac) rfl
  obtain ⟨hdma, hdma'⟩ := register_access s v (a := 0xFF46#16) (r := .dma) rfl
  refine ⟨hifr, hifr', memRead_ie s rfl, memWrite_ie s v rfl, hdiv.trans ?_, hdiv', htima, htima', htma, htma', htac,
    htac', ⟨_, hdma, hiByte_toNat _⟩, hdma'.trans ?_⟩
  · rw [← Timer.div_eq]; rfl
  · rw [← word_zero_eq_ofNat]; rfl

/-! ## The joypad (O32) -/

section Nibble

variable (b0 b1 b2 b3 : Bool)

@[simp] theorem nibble_getElem_zero : (nibble b0 b1 b2 b3)[0] = b0 := by
  revert b0 b1 b2 b3; decide
@[simp] theorem nibble_getElem_one : (nibble b0 b1 b2 b3)[1] = b1 := by
  revert b0 b1 b2 b3; decide
@[simp] theorem nibble_getElem_two : (nibble b0 b1 b2 b3)[2] = b2 := by
  revert b0 b1 b2 b3; decide
@[simp] theorem nibble_getElem_three : (nibble b0 b1 b2 b3)[3] = b3 := by
  revert b0 b1 b2 b3; decide

end Nibble

namespace Joypad

variable {j : Joypad}

/-- With no group selected the register reads 0xFF (R292). -/
theorem read_of_unselected (hd : j.selDpad = true) (hb : j.selBtn = true) : j.read = 0xFF#8 := by
  rw [read, hd, hb]; rfl

/-- The buttons of the selected groups, 1 for pressed (R292). -/
def pressed (j : Joypad) : BitVec 4 :=
  (if j.selDpad then 0#4 else j.held.dpad) ||| (if j.selBtn then 0#4 else j.held.action)

theorem read_of_selected (h : j.selDpad = false ∨ j.selBtn = false) :
    j.read = (3#2 ++ BitVec.ofBool j.selBtn ++ BitVec.ofBool j.selDpad ++ ~~~j.pressed : BitVec 8) :=
  if_neg (by rcases h with h | h <;> simp [h])

theorem register_high (selBtn selDpad : Bool) (n : BitVec 4) :
    let p := (3#2 ++ BitVec.ofBool selBtn ++ BitVec.ofBool selDpad ++ n : BitVec 8)
    p.getLsbD 7 = true ∧ p.getLsbD 6 = true ∧ p.getLsbD 5 = selBtn ∧ p.getLsbD 4 = selDpad := by
  revert selBtn selDpad n
  decide

/-- The high half of the register: two ones and the selectors (R292). -/
theorem read_high (h : j.selDpad = false ∨ j.selBtn = false) :
    j.read.getLsbD 7 = true ∧ j.read.getLsbD 6 = true ∧ j.read.getLsbD 5 = j.selBtn ∧ j.read.getLsbD 4 = j.selDpad := by
  rw [read_of_selected h]
  exact register_high _ _ _

/-- A low bit of the register is 0 exactly if the button of a selected group is pressed (R292). -/
theorem read_low_eq_false_iff (h : j.selDpad = false ∨ j.selBtn = false) {k : Nat} (hk : k < 4) :
    j.read.getLsbD k = false ↔
      (j.selDpad = false ∧ j.held.dpad.getLsbD k = true) ∨ (j.selBtn = false ∧ j.held.action.getLsbD k = true) := by
  have hbit : j.read.getLsbD k = !j.pressed.getLsbD k := by
    rw [read_of_selected h]
    exact (BitVec.getLsbD_append (y := ~~~j.pressed)).trans (by simp [hk])
  rw [hbit, pressed, BitVec.getLsbD_or]
  cases j.selDpad <;> cases j.selBtn <;> simp [← Bool.not_eq_true, or_iff_not_imp_left]

end Joypad

/-- A new press is a button released before and pressed now (R294). -/
theorem Buttons.newPress_iff (old new : Buttons) : old.newPress new = true ↔
    (old.right = false ∧ new.right = true) ∨ (old.left = false ∧ new.left = true) ∨
      (old.up = false ∧ new.up = true) ∨ (old.down = false ∧ new.down = true) ∨ (old.a = false ∧ new.a = true) ∨
      (old.b = false ∧ new.b = true) ∨ (old.select = false ∧ new.select = true) ∨
      (old.start = false ∧ new.start = true) := by
  simp [Buttons.newPress, or_assoc]

theorem setButtons_of_newPress {s : State} {new : Buttons} (h : s.joypad.held.newPress new = true) :
    setButtons new s = { s with joypad := { s.joypad with held := new }, irq := s.irq.request .joypad } := by
  rw [setButtons, h]; rfl

theorem setButtons_of_not_newPress {s : State} {new : Buttons} (h : s.joypad.held.newPress new = false) :
    setButtons new s = { s with joypad := { s.joypad with held := new } } := by
  rw [setButtons, h]; rfl

/-- Settles O32: the register by its two halves; the update by whether some button is newly pressed. -/
theorem joypadShowsTheSelectedGroups : Obligations.JoypadShowsTheSelectedGroups := by
  intro s v new j old pressed
  have hpressed : old.newPress new = true ↔ pressed := old.newPress_iff new
  obtain ⟨hread, hwrite⟩ := register_access s v (a := 0xFF00#16) (r := .p1) rfl
  refine ⟨⟨j.read, hread, Joypad.read_of_unselected, fun h => ?_⟩, hwrite,
    fun h => setButtons_of_newPress (hpressed.2 h),
    fun h => setButtons_of_not_newPress (Bool.eq_false_iff.2 (mt hpressed.1 h))⟩
  have hlow {k : Nat} (hk : k < 4) := Joypad.read_low_eq_false_iff h hk
  obtain ⟨h7, h6, h5, h4⟩ := Joypad.read_high h
  refine ⟨h7, h6, h5, h4, ?_, ?_, ?_, ?_⟩ <;>
    rw [hlow (by decide)] <;> simp [Buttons.dpad, Buttons.action, old, j]

/-! ## Interrupts (O33, O34, O35) -/

/-- The five low bits of `pend` are the enabled requests (R272). -/
theorem pend_getLsbD (q : Irq) {k : Nat} (hk : k < 5) : q.pend.getLsbD k = (q.ie.getLsbD k && q.ifr.getLsbD k) := by
  have hmask : (0x1F#8).getLsbD k = true := by interval_cases k <;> rfl
  rw [Irq.pend, BitVec.getLsbD_and, BitVec.getLsbD_and, hmask, Bool.and_true]

theorem Source.bit_lt (i : Source) : i.bit < 5 := by cases i <;> decide

/-- The source chosen is the one whose bit is set with no lower bit set (R273, R275). -/
theorem firstSource_eq_some_iff (p : Byte) (i : Source) :
    firstSource p = some i ↔ p.getLsbD i.bit = true ∧ ∀ k < i.bit, p.getLsbD k = false := by
  rw [and_comm]
  cases i <;> simp only [Source.bit, Nat.forall_lt_succ_left] <;> simp [firstSource, ite_eq_iff, and_assoc]

/-- Settles O33: the bits of the pending mask are those of `IE` and `IF`. -/
theorem lowestPendingSourceIsServed : Obligations.LowestPendingSourceIsServed := by
  intro q
  refine ⟨firstSource_pend_eq_none_iff q, fun i => ?_⟩
  have hi := i.bit_lt
  rw [firstSource_eq_some_iff, pend_getLsbD q hi, Bool.and_eq_true, and_assoc]
  refine and_congr_right fun _ => and_congr_right fun _ => forall₂_congr fun k hk => ?_
  rw [pend_getLsbD q (hk.trans hi), ← Bool.and_eq_true, Bool.eq_false_iff]

/-- Settles O35: the dispatch is `interruptHalf_of_canPush`. -/
theorem interruptDispatchEntersTheVector : Obligations.InterruptDispatchEntersTheVector :=
  fun _ _ hime hi hpush => interruptHalf_of_canPush hime hi hpush

/-- With nothing pending the interrupt half only wakes (R272). -/
theorem interruptHalf_of_nothing_pending {s : State} (h : s.irq.pend = 0#8) : interruptHalf s = .next s.wake := by
  rw [interruptHalf, (firstSource_pend_eq_none_iff _).2 h, ite_self]

/-- What waking leaves (R272). -/
theorem wake_eq (s : State) :
    s.wake = s.setMode (if s.cpu.mode = .halted ∧ s.irq.pend ≠ 0#8 then .running else s.cpu.mode) := by
  unfold State.wake
  split <;> rfl

/-- Settles O34: neither case dispatches. -/
theorem wakeWithoutService : Obligations.WakeWithoutService := by
  intro s h
  have hwakes : interruptHalf s = .next s.wake := h.elim interruptHalf_of_masked interruptHalf_of_nothing_pending
  rw [hwakes, wake_eq]
  rfl

/-! ## The step (O5) -/

/-- The devices advance as far as the DMA tick is answered; it leaves the launch parameters alone (R261 (e), R288). -/
theorem advanceDevices_of_dmaTick {s u : State} {c : Nat} (h : dmaTick (s.timerTick (s.params.tickScale * c)) c = .ok u) :
    advanceDevices s c = .ok (u.ppuTick (s.params.tickScale * c)) := by
  have hparams : u.params = s.params := (congrArg State.params (dmaTick_frame h)).trans (State.timerTick_params _ _)
  rw [advanceDevices, h]
  simp only [hparams]

theorem advanceDevices_of_dmaTick_error {s : State} {c : Nat} {r : Refusal}
    (h : dmaTick (s.timerTick (s.params.tickScale * c)) c = .error r) : advanceDevices s c = .error r := by
  rw [advanceDevices, h]

/-- The end of a step: the devices by what the DMA tick answers, then the interrupt half (R261 (d) to (f)). -/
theorem thenDo_finishStep (o : Out) (pen : Nat) :
    thenDo o (finishStep pen) =
      match o with
      | .next t =>
        let c := t.cost + pen
        match dmaTick (State.timerTick { t with cycles := c } (t.params.tickScale * c)) c with
        | .ok u => interruptHalf (u.ppuTick (t.params.tickScale * c))
        | .error r => .refused r
      | .fault f => .fault f
      | .refused r => .refused r := by
  cases o with
  | fault f => rfl
  | refused r => rfl
  | next t =>
    show finishStep pen t = _
    simp only
    split
    next u hu => exact congrArg (onOk · interruptHalf) (advanceDevices_of_dmaTick hu)
    next r hr => exact congrArg (onOk · interruptHalf) (advanceDevices_of_dmaTick_error hr)

/-- The instruction part of a step, by the run mode and what the fetch answers (R246, R261 (b), (c)). -/
theorem runInstr_eq (s : State) :
    runInstr s =
      match s.cpu.mode with
      | .halted => exec .halt s
      | .running =>
        match fetchInstr s with
        | .ok (i, t) => exec i t
        | .error r => .refused r := by
  unfold runInstr
  cases s.cpu.mode with
  | halted => rfl
  | running => cases fetchInstr s <;> rfl

/-- Settles O5: the instruction part by `runInstr_eq`, the rest by `thenDo_finishStep`. -/
theorem stepFollowsTheStepAlgorithm : Obligations.StepFollowsTheStepAlgorithm := by
  intro s
  rw [step, thenDo_finishStep, runInstr_eq]
  rfl

end Sys2Proof.Machine

namespace Sys2Proof.Machine

/-! ## The STAT line (O37) -/

section StatLine

variable (p : Ppu) (s : State)

/-- The mode is the one whose encoding `STAT[1:0]` holds (R22, R321). -/
theorem Ppu.mode_eq_iff (m : PpuMode) : p.mode = m ↔ p.stat.toNat % 4 = m.bits.toNat := by
  have hlt : p.stat.toNat % 4 < 4 := Nat.mod_lt _ (by decide)
  unfold Ppu.mode
  generalize p.stat.toNat % 4 = k at hlt
  cases m <;> interval_cases k <;> decide

/-- The composite signal is the OR of the four conditions `STAT[6:3]` selects (R332). -/
theorem Ppu.statSignal_iff : p.statSignal = true ↔
    (p.stat.getLsbD 3 = true ∧ p.stat.toNat % 4 = 0) ∨ (p.stat.getLsbD 4 = true ∧ p.stat.toNat % 4 = 1) ∨
      (p.stat.getLsbD 5 = true ∧ p.stat.toNat % 4 = 2) ∨ (p.stat.getLsbD 6 = true ∧ p.ly = p.lyc) := by
  simp only [Ppu.statSignal, Bool.or_eq_true, Bool.and_eq_true, beq_iff_eq, Ppu.mode_eq_iff, or_assoc]
  rfl

/-- `STAT[2]` is replaced by LY=LYC (R332). -/
theorem Ppu.statEval_stat :
    p.statEval.1.stat = (p.stat &&& 0xFB#8) ||| (if p.ly = p.lyc then 0x04#8 else 0#8) := by
  have hset : ∀ v : Byte, v ||| 0x04#8 = (v &&& 0xFB#8) ||| 0x04#8 := by decide
  simp only [Ppu.statEval]
  split
  · exact hset p.stat
  · rw [BitVec.or_zero]

/-- Every bit of `STAT` but LY=LYC survives the evaluation (R332). -/
theorem Ppu.statEval_stat_getLsbD {i : Nat} (hi : i < 8) (h : i ≠ 2) :
    p.statEval.1.stat.getLsbD i = p.stat.getLsbD i := by
  have hmasks : ∀ k < 8, k ≠ 2 → (0xFB#8).getLsbD k = true ∧ (0x04#8).getLsbD k = false := by decide
  obtain ⟨hkeep, hclear⟩ := hmasks i hi h
  rw [Ppu.statEval_stat, BitVec.getLsbD_or, BitVec.getLsbD_and, hkeep, apply_ite (BitVec.getLsbD · i), hclear,
    BitVec.getLsbD_zero, ite_self, Bool.and_true, Bool.or_false]

/-- The mode bits survive the evaluation (R332). -/
theorem Ppu.statEval_stat_mod_four : p.statEval.1.stat.toNat % 4 = p.stat.toNat % 4 := by
  have hlow : p.statEval.1.stat.setWidth 2 = p.stat.setWidth 2 := by
    refine BitVec.eq_of_getLsbD_eq fun i hi => ?_
    rw [BitVec.getLsbD_setWidth, BitVec.getLsbD_setWidth, p.statEval_stat_getLsbD (by omega) (by omega)]
  simpa only [BitVec.toNat_setWidth] using congrArg BitVec.toNat hlow

/-- What the evaluation writes is not part of the signal it evaluates (R332). -/
theorem Ppu.statEval_statSignal : p.statEval.1.statSignal = p.statSignal := by
  refine Bool.eq_iff_iff.2 ?_
  simp (disch := decide) only [Ppu.statSignal_iff, Ppu.statEval_stat_mod_four, Ppu.statEval_stat_getLsbD]
  rfl

/-- What the evaluation writes: `STAT[2]` and the stored line (R332). -/
theorem Ppu.statEval_eq : p.statEval.1 =
    { p with stat := (p.stat &&& 0xFB#8) ||| (if p.ly = p.lyc then 0x04#8 else 0#8), statLine := p.statSignal } := by
  rw [← Ppu.statEval_stat]
  rfl

/-- A second evaluation writes the same `STAT[2]` again (R332). -/
theorem Ppu.statEval_stat_again : p.statEval.1.statEval.1.stat = p.statEval.1.stat := by
  by_cases h : p.ly = p.lyc <;> simp [Ppu.statEval, h, BitVec.or_assoc, BitVec.and_assoc]

/-- A second evaluation changes nothing and requests nothing: the line no longer rises (R332). -/
theorem Ppu.statEval_statEval : p.statEval.1.statEval = (p.statEval.1, false) := by
  have hwrites : p.statEval.1.statEval.1 =
      { p.statEval.1 with stat := p.statEval.1.statEval.1.stat, statLine := p.statEval.1.statSignal } := rfl
  refine Prod.ext ?_ ?_
  · rw [hwrites, Ppu.statEval_stat_again, Ppu.statEval_statSignal]
    rfl
  · show (p.statEval.1.statSignal && !p.statSignal) = false
    rw [Ppu.statEval_statSignal, Bool.and_not_self]

/-- The evaluation on the machine: the PPU's, and its request (R332). -/
theorem State.statEval_eq : s.statEval =
    { s with ppu := s.ppu.statEval.1, irq := if s.ppu.statEval.2 = true then s.irq.request .lcdStatus else s.irq } := by
  unfold State.statEval State.requestIf
  simp only
  split <;> rfl

/-- The request is made exactly on the rising edge (R332). -/
theorem Ppu.statEval_requests_iff : p.statEval.2 = true ↔ p.statSignal = true ∧ p.statLine = false := by
  simp [Ppu.statEval]

theorem State.statEval_statEval : s.statEval.statEval = s.statEval := by
  rw [State.statEval_eq s.statEval, State.statEval_ppu, Ppu.statEval_statEval]
  simp [State.statEval_eq]

end StatLine

/-- Settles O37: the signal is the OR of the four conditions, the request its rising edge. -/
theorem statLineRequestsOnItsRisingEdge : Obligations.StatLineRequestsOnItsRisingEdge := by
  intro s p t line
  have hline : p.statSignal = true ↔ line := p.statSignal_iff
  have hframe : t = { s with ppu := t.ppu, irq := t.irq } := by rw [show t = _ from s.statEval_eq]
  have hirq : t.irq = if p.statEval.2 = true then s.irq.request .lcdStatus else s.irq := s.statEval_irq
  have hppu : t.ppu = p.statEval.1 := s.statEval_ppu
  refine ⟨by rw [hppu]; exact hline, by rw [hppu, p.statEval_eq], hframe, fun hl hlow => ?_, fun hn => ?_, s.statEval_statEval⟩
  · rw [hirq, if_pos (p.statEval_requests_iff.2 ⟨hline.2 hl, hlow⟩)]
    rfl
  · rw [hirq, if_neg]
    intro hreq
    obtain ⟨hsig, hlow⟩ := p.statEval_requests_iff.1 hreq
    exact hn.elim (fun h => h (hline.1 hsig)) (fun h => Bool.false_ne_true (hlow.symm.trans h))

/-! ## The PPU tick (O39) -/

section Tick

variable {p : Ppu} {d : Screen} {ram : Memory} {n : Nat}

/-- Off, the counter does not run (R329). -/
theorem Ppu.advance_off (h : p.lcdc.getLsbD 7 = false) : p.advance d ram n = (p, false) := by
  rw [Ppu.advance, h]
  rfl

/-- Inside a visible line the counter selects the mode (R326). -/
theorem Ppu.advance_visible (hon : p.lcdc.getLsbD 7 = true) (hk : p.ticks + n ≤ 456) (hly : p.ly.toNat < 144) :
    p.advance d ram n = (Ppu.setMode { p with ticks := p.ticks + n } (modeAt (p.ticks + n)), false) := by
  simp [Ppu.advance, Config.lineTicks, hon, hly, Nat.not_lt.2 hk]

/-- Inside vertical blank only the counter moves (R326). -/
theorem Ppu.advance_blank (hon : p.lcdc.getLsbD 7 = true) (hk : p.ticks + n ≤ 456) (hly : 144 ≤ p.ly.toNat) :
    p.advance d ram n = ({ p with ticks := p.ticks + n }, false) := by
  simp [Ppu.advance, Config.lineTicks, hon, Nat.not_lt.2 hly, Nat.not_lt.2 hk]

/-- Past the end of a line the counter keeps its excess and the line rolls over (R327). -/
theorem Ppu.advance_past (hon : p.lcdc.getLsbD 7 = true) (hk : 456 < p.ticks + n) :
    p.advance d ram n = Ppu.rollover { p with ticks := p.ticks + n - 456 } d ram := by
  simp [Ppu.advance, Config.lineTicks, hon, hk]

/-- The line after this one: after 153 line 0 (R327). -/
def Ppu.nextLine (p : Ppu) : Byte := if p.ly = 153#8 then 0#8 else p.ly + 1#8

theorem Ppu.rollover_eq : p.rollover d ram =
    let q := { p with ly := p.nextLine }
    if p.nextLine = 144#8 then (q.vblankEntry, true)
    else if p.nextLine.toNat < 144 then
      (((q.selectSprites ram p.nextLine.toNat).renderLine d ram p.nextLine.toNat).setMode .hblank, false)
    else (q, false) := rfl

/-- Line 144 enters vertical blank and requests (R328). -/
theorem Ppu.rollover_vblank (h : p.nextLine = 144#8) :
    p.rollover d ram = (Ppu.vblankEntry { p with ly := 144#8 }, true) := by
  rw [Ppu.rollover_eq, h]
  rfl

/-- A visible line selects its sprites, is rendered and starts in HBLANK (R327). -/
theorem Ppu.rollover_visible (h : p.nextLine.toNat < 144) :
    p.rollover d ram =
      (((Ppu.selectSprites { p with ly := p.nextLine } ram p.nextLine.toNat).renderLine d ram p.nextLine.toNat).setMode
        .hblank, false) := by
  have hne : p.nextLine ≠ 144#8 := fun he => by simp [he] at h
  rw [Ppu.rollover_eq, if_neg hne, if_pos h]

/-- The other lines of vertical blank only count (R327). -/
theorem Ppu.rollover_blank (h : 144 < p.nextLine.toNat) : p.rollover d ram = ({ p with ly := p.nextLine }, false) := by
  have hne : p.nextLine ≠ 144#8 := fun he => by simp [he] at h
  rw [Ppu.rollover_eq, if_neg hne, if_neg (by omega)]

variable {s : State} {q : Ppu}

/-- A tick without a vblank request is the PPU's, then `StatEval` (R325). -/
theorem ppuTick_of_quiet (h : s.ppu.advance s.params.screen s.ram n = (q, false)) :
    s.ppuTick n = State.statEval { s with ppu := q } := by
  rw [State.ppuTick, h]
  rfl

/-- A tick into vertical blank also requests it (R328). -/
theorem ppuTick_of_vblank (h : s.ppu.advance s.params.screen s.ram n = (q, true)) :
    s.ppuTick n = State.statEval { s with ppu := q, irq := s.irq.request .vblank } := by
  rw [State.ppuTick, h]
  rfl

end Tick

/-- The encoding of the mode the counter selects (R22, R326). -/
theorem modeAt_bits (k : Nat) : (modeAt k).bits = if k ≤ 80 then 2#8 else if k ≤ 252 then 3#8 else 0#8 := by
  unfold modeAt
  split
  · rfl
  · split <;> rfl

/-- Settles O39: one equation of the tick per case, the machine's tick by `ppuTick_of_quiet` or `ppuTick_of_vblank`. -/
theorem ppuTickWalksTheLines : Obligations.PpuTickWalksTheLines := by
  intro s n p k next mode
  refine ⟨fun hoff => ?_, fun hon hk hly => ?_, fun hon hk hly => ?_, fun hon hk hnext => ?_, fun hon hk hnext => ?_,
    fun hon hk hnext => ?_⟩
  · exact ppuTick_of_quiet (Ppu.advance_off hoff)
  · intro m
    rw [ppuTick_of_quiet (Ppu.advance_visible hon hk hly), Ppu.setMode, modeAt_bits]
  · exact ppuTick_of_quiet (Ppu.advance_blank hon hk hly)
  · exact ppuTick_of_vblank ((Ppu.advance_past hon hk).trans (Ppu.rollover_vblank hnext))
  · exact ppuTick_of_quiet ((Ppu.advance_past hon hk).trans (Ppu.rollover_visible hnext))
  · exact ppuTick_of_quiet ((Ppu.advance_past hon hk).trans (Ppu.rollover_blank hnext))

/-! ## Tiles, maps and shades (O43) -/

/-- Video RAM up to its end is the storage at the bus address (R335). -/
theorem vramByte_eq_read (ram : Memory) {a : Nat} (h : a < 0xA000) : vramByte ram a = Memory.read ram a := if_pos h

/-- A pixel's index is the bit of the second byte, then that of the first (R335). -/
theorem tilePixel_toNat (ram : Memory) (a r c : Nat) :
    (tilePixel ram a r c).toNat =
      2 * ((vramByte ram (a + 2 * r + 1)).getLsbD (7 - c)).toNat + ((vramByte ram (a + 2 * r)).getLsbD (7 - c)).toNat := by
  have hjoin : ∀ hi lo : Bool, (BitVec.ofBool hi ++ BitVec.ofBool lo).toNat = 2 * hi.toNat + lo.toNat := by decide
  exact hjoin _ _

/-- The background tile is addressed unsigned from 0x8000 or signed from 0x9000 (R335). -/
theorem bgTileAddr_eq (lcdc t : Byte) : (bgTileAddr lcdc t.toNat : Int) =
    if lcdc.getLsbD 4 = true then 0x8000 + 16 * (t.toNat : Int) else 0x9000 + 16 * t.toInt := by
  unfold bgTileAddr
  rw [BitVec.toInt_eq_toNat_cond]
  split_ifs <;> push_cast <;> omega

/-- A shade is two bits of the palette (R344). -/
theorem shade_toNat (pal : Byte) (idx : BitVec 2) : (shade pal idx).toNat = pal.toNat / 2 ^ (2 * idx.toNat) % 4 := by
  rw [shade_eq, BitVec.toNat_ofNat, pow_mul]
  rfl

/-- Settles O43: one rule per format, read inside video RAM. -/
theorem tilesMapsAndShades : Obligations.TilesMapsAndShades := by
  refine ⟨fun ram a r c ha _ => ?_, bgTileAddr_eq, fun ram base row col ha => ?_, fun _ => ⟨rfl, rfl⟩, shade_toNat⟩
  · rw [tilePixel_toNat, vramByte_eq_read ram ha, vramByte_eq_read ram (by omega)]
  · rw [mapTile, vramByte_eq_read ram ha]

/-! ## The PPU registers (O38) -/

/-- Turning the PPU off resets line, counter and mode (R350). -/
theorem Ppu.writeLcdc_eq (p : Ppu) (v : Byte) : p.writeLcdc v =
    if v.getLsbD 7 = true then { p with lcdc := v }
    else { p with lcdc := v, ly := 0#8, ticks := 0, stat := p.stat &&& 0xFC#8 } := by
  rw [← BitVec.or_zero (x := p.stat &&& 0xFC#8)]
  rfl

/-- Settles O38: each register at its address of the map, `StatEval` after each write. -/
theorem ppuRegistersReadAndWrite : Obligations.PpuRegistersReadAndWrite := by
  intro s v p put
  obtain ⟨hlcdc, hlcdc'⟩ := register_access s v (a := 0xFF40#16) (r := .lcdc) rfl
  obtain ⟨hstat, hstat'⟩ := register_access s v (a := 0xFF41#16) (r := .stat) rfl
  obtain ⟨hscy, hscy'⟩ := register_access s v (a := 0xFF42#16) (r := .scy) rfl
  obtain ⟨hscx, hscx'⟩ := register_access s v (a := 0xFF43#16) (r := .scx) rfl
  obtain ⟨hly, hly'⟩ := register_access s v (a := 0xFF44#16) (r := .ly) rfl
  obtain ⟨hlyc, hlyc'⟩ := register_access s v (a := 0xFF45#16) (r := .lyc) rfl
  obtain ⟨hbgp, hbgp'⟩ := register_access s v (a := 0xFF47#16) (r := .bgp) rfl
  obtain ⟨hobp0, hobp0'⟩ := register_access s v (a := 0xFF48#16) (r := .obp0) rfl
  obtain ⟨hobp1, hobp1'⟩ := register_access s v (a := 0xFF49#16) (r := .obp1) rfl
  obtain ⟨hwy, hwy'⟩ := register_access s v (a := 0xFF4A#16) (r := .wy) rfl
  obtain ⟨hwx, hwx'⟩ := register_access s v (a := 0xFF4B#16) (r := .wx) rfl
  refine ⟨hlcdc, hlcdc'.trans ?_, hstat, hstat', hscy, hscy', hscx, hscx', hly, hly', hlyc, hlyc', hbgp, hbgp', hobp0, hobp0',
    hobp1, hobp1', hwy, hwy', hwx, hwx'⟩
  rw [← Ppu.writeLcdc_eq]
  rfl

end Sys2Proof.Machine
